-- ==== Sys2Proof/Word.lean ====
section
/-! DEFINITION. The plain words and tables of the Fulcrep 430: bytes, 16-bit words, the bounded numbers that
name lines, slots, blocks, entries and stations, and fixed-size tables indexed by them. -/

namespace Sys2Proof

/-- A byte of the host bus or of a line (sections 5.2 and 1.2 of the manual). -/
abbrev Byte := BitVec 8

/-- A 16-bit word: the tick counter, a cycle number, a digest, a check register. -/
abbrev Word16 := BitVec 16

/-- A line number, 0 to 3 (section 5.7). -/
abbrev Line := Fin 4

/-- A transaction slot number, 0 to 15 (chapter 2). -/
abbrev SlotNo := Fin 16

/-- A payload block number, 0 to 127 (chapter 3). -/
abbrev BlockNo := Fin 128

/-- A poll entry index, 0 to 15 (chapter 6). -/
abbrev EntryNo := Fin 16

/-- A station address, 0 to 31; 0 is the broadcast address (section 5.7). -/
abbrev StationAddr := Fin 32

/-- A fixed number of like records, one for each index. -/
abbrev Table (n : Nat) (α : Type) := Vector α n

/-- The record at an index. -/
def Table.look {n : Nat} {α : Type} (t : Table n α) (i : Fin n) : α := Vector.get t i

/-- The table with one record replaced. -/
def Table.put {n : Nat} {α : Type} (t : Table n α) (i : Fin n) (x : α) : Table n α := Vector.set t i.val x i.isLt

/-- The same record at every index. -/
def Table.fill {α : Type} (n : Nat) (x : α) : Table n α := Vector.replicate n x

/-- The table whose record at each index is given by a function of the index. -/
def Table.make {n : Nat} {α : Type} (f : Fin n → α) : Table n α := Vector.ofFn f

end Sys2Proof
end

