-- ==== Sys2Proof/Config.lean ====
section
/-! DEFINITION. What a board fixes for the part. The manual leaves no result of a command undefined, so no free
value stands here; the one thing it leaves to the board that a reset state needs is the level of the straps. -/

namespace Sys2Proof

/-- The line-present straps at the release of reset that `State.reset` describes: all four high, every line wired.
DESIGN CHOICE (log entry 1): the manual samples the pins and gives no level of its own. The command
HARDWARE_RESET carries the levels, so every other board is one command away. -/
def Config.strapsAtReset : BitVec 4 := 0b1111#4

end Sys2Proof
end

