-- ==== Sys2Proof/Syntax.lean ====
section
/-! DEFINITION. The commands of the Fulcrep 430: one constructor for each row of spec/opcode_table.json, with the
row's operands. A command is one happening (section 5.5): an access of the host, a DMA acknowledge, a pin event, or
a timer or receiver event of one line. -/

namespace Sys2Proof

/-- The commands and events of the 430, in the order of the table. -/
inductive Instr where
  /-- HARDWARE_RESET (R185): release of RESET; bit n of `straps` is the level sampled on LINE_EN n. -/
  | hardwareReset (straps : BitVec 4)
  /-- SOFT_RESET (R185): bit 0 of a CONTROL write is 1. -/
  | softReset
  /-- ABORT_CMD (R142): bit 1 of a CONTROL write is 1. -/
  | abortCmd
  /-- DISCARD_HEAD (R130): bit 2 of a CONTROL write is 1. -/
  | discardHead
  /-- BUS_ENABLE (R180): the CONTROL write `written` hands its bit 3 to the Event Unit. -/
  | busEnable (written : Byte)
  /-- RESULT_DMA (R167): the CONTROL write `written` hands its bit 4 to the Data Port. -/
  | resultDma (written : Byte)
  /-- OPCODE_BYTE (R136): a write to COMMAND that finds the assembler READY. -/
  | opcodeByte (b : Byte)
  /-- PARAMETER_BYTE (R137): a write to COMMAND in COLLECT that is not the last parameter byte. -/
  | parameterByte (b : Byte)
  /-- COMMAND_WRITE_DROPPED (R138): a write to COMMAND in PAYLOAD or RESPOND. -/
  | commandWriteDropped (b : Byte)
  /-- SUBMIT (R148): the write of the last of its eight parameter bytes (the flags). -/
  | submit (last : Byte)
  /-- CANCEL (R149): the write of its one parameter byte (the slot). -/
  | cancel (last : Byte)
  /-- PURGE (R150): the write of its one parameter byte (the line). -/
  | purge (last : Byte)
  /-- LINE_SET (R151): the write of the last of its nine parameter bytes (the probe interval). -/
  | lineSet (last : Byte)
  /-- LINE_ON (R152): the write of its one parameter byte (the line). -/
  | lineOn (last : Byte)
  /-- LINE_OFF (R153): the write of the last of its two parameter bytes (the kind). -/
  | lineOff (last : Byte)
  /-- LINE_RESET (R154): the write of its one parameter byte (the line). -/
  | lineReset (last : Byte)
  /-- POLL_SET (R155): the write of the last of its eight parameter bytes (the enable). -/
  | pollSet (last : Byte)
  /-- POLL_RUN (R156): the write of the last of its three parameter bytes (the period's high byte). -/
  | pollRun (last : Byte)
  /-- POLL_HALT (R157): the write of its one parameter byte (the line). -/
  | pollHalt (last : Byte)
  /-- STATION_SET (R158): the write of the last of its three parameter bytes (the action). -/
  | stationSet (last : Byte)
  /-- QUERY_POOL (R161): the write of the third parameter byte of QUERY, kind POOL. -/
  | queryPool (last : Byte)
  /-- QUERY_SLOT (R161): the write of the third parameter byte of QUERY, kind SLOT. -/
  | querySlot (last : Byte)
  /-- QUERY_LINE (R162): the write of the third parameter byte of QUERY, kind LINE. -/
  | queryLine (last : Byte)
  /-- QUERY_STATION (R98): the write of the third parameter byte of QUERY, kind STATION (the station). -/
  | queryStation (last : Byte)
  /-- QUERY_CHANGES (R96): the write of the third parameter byte of QUERY, kind CHANGES. -/
  | queryChanges (last : Byte)
  /-- QUERY_ENTRY (R117): the write of the third parameter byte of QUERY, kind ENTRY (the entry). -/
  | queryEntry (last : Byte)
  /-- QUEUE_SET (R134): the write of the last of its four parameter bytes (the host reserve). -/
  | queueSet (last : Byte)
  /-- RESPONSE_READ (R139): a read of RESPONSE. -/
  | responseRead
  /-- RESULT_READ (R126): a read of RESULT. -/
  | resultRead
  /-- DATA_WRITE (R166): a write to DATA by the host processor. -/
  | dataWrite (b : Byte)
  /-- DATA_READ (R166): a read of DATA by the host processor. -/
  | dataRead
  /-- DMA_WRITE_ACK (R168): DACK with the write strobe; `tc` is the terminal-count input sampled with it. -/
  | dmaWriteAck (b : Byte) (tc : Bool)
  /-- DMA_READ_ACK (R168): DACK with the read strobe; `tc` is the terminal-count input sampled with it. -/
  | dmaReadAck (tc : Bool)
  /-- CAUSE_READ (R177): a read of CAUSE. -/
  | causeRead
  /-- EVENT_MASK_WRITE (R176): a write to EVENT MASK. -/
  | eventMaskWrite (b : Byte)
  /-- TICK_LOW_READ (R186): a read of TICK LOW. -/
  | tickLowRead
  /-- IGNORED_WRITE (R182): a write at an offset whose Write column says ignored. -/
  | ignoredWrite (offset : Fin 8) (b : Byte)
  /-- TICK (R186): the 8000th reference period since the last tick ends. -/
  | tick
  /-- CYCLE_START (R107): the cycle timer of a line's scheduler has reached the period. -/
  | cycleStart (line : Line)
  /-- POLL_CLAIM (R111): the claim at the head of a line's due list is taken. -/
  | pollClaim (line : Line)
  /-- TAKE (R67): a line's engine takes the head of its pending queue. -/
  | take (line : Line)
  /-- LEAD_TIMER_EXPIRY (R69): the lead time ends in GUARD. -/
  | leadTimerExpiry (line : Line)
  /-- GUARD_SPACE_HEARD (R70): the receive input reads space in GUARD. -/
  | guardSpaceHeard (line : Line)
  /-- CHARACTER_SENT (R71): the stop bit of the character being sent ends; bit i of `readBack` is the level read
  back at position i + 1 of the character (R4), 1 for mark. -/
  | characterSent (line : Line) (readBack : BitVec 11)
  /-- HOLD_TIMER_EXPIRY (R73): the turnaround hold ends. -/
  | holdTimerExpiry (line : Line)
  /-- REPLY_TIMEOUT (R75): the reply timer runs out in AWAIT. -/
  | replyTimeout (line : Line)
  /-- START_BIT_TAKEN (R75): the receiver confirms a start bit (R3). -/
  | startBitTaken (line : Line)
  /-- CHARACTER_RECEIVED (R76): the receiver delivers a character; bit i of `samples` is the level sampled i + 1.5
  bit times after the edge (R3): data bits 0 to 7, the marker bit, the stop bit, 1 for mark. -/
  | characterReceived (line : Line) (samples : BitVec 10)
  /-- GAP_LIMIT_EXPIRY (R77): the gap after a received character passes the gap limit. -/
  | gapLimitExpiry (line : Line)
  /-- SETTLE_QUIET (R82): the quiet time reaches the settle gap. -/
  | settleQuiet (line : Line)
  /-- STUCK_TIMER_EXPIRY (R83): the stuck timer runs out in SETTLE. -/
  | stuckTimerExpiry (line : Line)
  /-- RESET_INPUT_ACTIVE (R185): the reset input becomes active. -/
  | resetInputActive
  /-- RECEIVER_RE_ARM (R3): the receive input of a line whose receiver waits for mark reads mark. -/
  | receiverReArm (line : Line)
  deriving DecidableEq, Repr

end Sys2Proof
end

