-- ==== Sys2Proof/WellFormed.lean ====
section
/-! DEFINITION. Which commands name a happening the part can see. Line numbers, strap levels and sampled levels
cannot be out of range by their types; the one check left is the offset of IGNORED_WRITE. -/

namespace Sys2Proof

/-- The offsets whose Write column says ignored (section 11.1, R182): RESULT, CAUSE, TICK LOW and TICK HIGH. -/
def ignoredOffset (offset : Fin 8) : Bool := offset == 2 || offset == 4 || offset == 6 || offset == 7

/-- A command is well-formed: an IGNORED_WRITE names a location where a write is ignored. -/
def Instr.wellFormed : Instr → Bool
  | .ignoredWrite offset _ => ignoredOffset offset
  | _ => true

end Sys2Proof
end

