-- ==== Sys2Proof/Decode.lean ====
section
/-! DEFINITION. Words to commands. The 430 is a block: it takes accesses and pin events, and no row of
spec/opcode_table.json gives a word of bits, so no word spells a command. -/

namespace Sys2Proof

/-- The command that a word of the opcode table spells: none, because no row of the table gives bits. -/
def decodeTableWord (_nbits _w : Nat) : Option Instr := none

end Sys2Proof
end

