-- ==== Sys2Proof/Machine/State.lean ====
section
/-! DEFINITION. The state of the Fulcrep 430, block by block, as plain data, and its value after reset. Every field
cites the rule of spec/ that names it; INVENTORY.md lists them with their reset values. -/

namespace Sys2Proof.Machine

/-! ### Reasons to stop -/

/-- The reasons for which a step of this model faults: none. The manual refuses no access ("the 430 refuses no bus
access", R138) and gives every happening an effect, so no constructor is needed and no step can fault. -/
inductive Fault where
  deriving DecidableEq, Repr

/-- The reasons for which a step of this model has no meaning. -/
inductive Refusal where
  /-- Raised by an arm of `exec` for a row of the table without a meaning; no arm of this model raises it. Safe. -/
  | notModelled (mnemonic : String)
  deriving DecidableEq, Repr

/-! ### Slot Table (chapter 2) -/

/-- Slot states (section 2.2). -/
inductive SlotState where
  | free | loading | queued | active | done
  deriving DecidableEq, Repr

/-- Who created a slot (section 2.1.1). -/
inductive Origin where
  | host | poll
  deriving DecidableEq, Repr

/-- The priority class of a slot (section 2.1.1). -/
inductive SlotClass where
  | urgent | normal | poll
  deriving DecidableEq, Repr

/-- The kinds of failure of an attempt (section 2.1, field last failure). -/
inductive Failure where
  | silence | garbled | wrongStation | stale | busy | collision
  deriving DecidableEq, Repr

/-- The outcomes of a transaction (R34). -/
inductive TransactionOutcome where
  | ok | sent | cancelled | lineDown | replyTooLong | noReply | garbled | wrongStation | stale | busy | collision
  deriving DecidableEq, Repr

/-- The outcomes a cancel pending flag can carry (section 2.1). -/
inductive PendingOutcome where
  | cancelled | lineDown
  deriving DecidableEq, Repr

/-- A transaction slot record (section 2.1). `none` is "absent" (section 5.8 of the introduction). -/
structure Slot where
  state : SlotState
  origin : Origin
  line : Line
  station : StationAddr
  cls : SlotClass
  tag : Byte
  retryLimit : Nat
  attempts : Nat
  requestLength : Nat
  replyRoom : Nat
  requestChain : List BlockNo
  replyChain : List BlockNo
  replyLength : Option Nat
  lastFailure : Option Failure
  requestSent : Bool
  cancelPending : Option PendingOutcome
  outcome : Option TransactionOutcome
  doneTime : Word16
  deriving DecidableEq, Repr

/-- The cleared record that every FREE slot holds (R20). -/
def Slot.cleared : Slot :=
  { state := .free, origin := .host, line := 0, station := 0, cls := .normal, tag := 0, retryLimit := 0,
    attempts := 0, requestLength := 0, replyRoom := 0, requestChain := [], replyChain := [], replyLength := none,
    lastFailure := none, requestSent := false, cancelPending := none, outcome := none, doneTime := 0 }

/-! ### Block Pool (chapter 3) -/

/-- The payload memory: (address, byte) pairs in one canonical form, addresses strictly rising and no entry of
value 0, which is what an unlisted address reads as (R45: hardware reset writes 0 into every byte). The byte at
position p of block b has address 16 b + p. -/
abbrev Memory := List Host.Cell

/-- The Block Pool (section 3.1); the free count is the length of the free list (R46). -/
structure Pool where
  mem : Memory
  free : List BlockNo
  leastFree : Nat
  hostReserve : Nat
  deriving DecidableEq, Repr

/-! ### Line Engine and link (chapters 4 and 1) -/

/-- Line modes (section 4.1). -/
inductive LineMode where
  | absent | off | on | draining
  deriving DecidableEq, Repr

/-- Drain kinds (section 4.1). -/
inductive DrainKind where
  | drain | abort
  deriving DecidableEq, Repr

/-- Engine states (chapter 4). -/
inductive EngineState where
  | disabled | settle | idle | guard | transmit | turnaround | await | receive
  deriving DecidableEq, Repr

/-- The phase of the active slot's attempt (chapter 4). -/
inductive Phase where
  | resync | request | broadcast
  deriving DecidableEq, Repr

/-- The seven configuration values of a line (R64). -/
structure LineConfig where
  divisor : Nat
  turnaroundHold : Nat
  replyTimeout : Nat
  gapLimit : Nat
  settleGap : Nat
  offlineThreshold : Nat
  probeInterval : Nat
  deriving DecidableEq, Repr

/-- The default line configuration (R64). -/
def LineConfig.default : LineConfig :=
  { divisor := 208, turnaroundHold := 2, replyTimeout := 20, gapLimit := 22, settleGap := 33, offlineThreshold := 3,
    probeInterval := 4 }

/-- A Line Engine (chapter 4, "An engine holds the following state"). A timer is `none` when stopped, and
`some n` when running, where n is the number of bit times it was started for. -/
structure Engine where
  mode : LineMode
  drainKind : Option DrainKind
  state : EngineState
  active : Option SlotNo
  phase : Option Phase
  resynced : Bool
  queue : List SlotNo
  config : LineConfig
  leadTimer : Option Nat
  holdTimer : Option Nat
  replyTimer : Option Nat
  stuckTimer : Option Nat
  stuckRaised : Bool
  /-- The gap watch of R77 runs: a character of the reply was taken and the next start bit has not been. -/
  gapWatch : Bool
  deriving DecidableEq, Repr

/-- The transmitter of a line (R2, section 1.10): idle, or sending a character of which `position` (1 to 11) is the
position reached and `readBack` the levels read back so far (R4). The table has no happening inside a character, so
between happenings the position is the first and nothing is read back yet (log entry 5). -/
inductive Transmitter where
  | idle
  | sending (data : Byte) (marker : Bool) (position : Nat) (readBack : List Bool)
  deriving DecidableEq, Repr

/-- The receiver of a line (R3, section 1.10): armed, assembling a character of which `bits` are the levels sampled
so far, or waiting for mark before it re-arms. -/
inductive Receiver where
  | armed
  | assembling (bits : List Bool)
  | waitMark
  deriving DecidableEq, Repr

/-- The link state of a line (section 1.10): transmitter, receiver, check register, the reception in progress (R10)
and the two measures of quiet (R5), in bit times as the latest happening left them (log entry 5). -/
structure Link where
  transmitter : Transmitter
  receiver : Receiver
  /-- The check register of the frame being sent or received (R11). -/
  check : Word16
  /-- Characters of the reply taken so far in the reception (R10). -/
  charCount : Nat
  /-- The kept control character of the reply (R8, R76). -/
  control : Byte
  /-- The kept length character of the reply (R9, R76). -/
  length : Byte
  /-- The kept first check character of the reply (R76). -/
  checkHigh : Byte
  /-- Payload bytes stored in this reception (R10, R53). -/
  stored : Nat
  /-- The number of the character of the frame being sent, counted from 1; 0 when none is (R6, R71). -/
  sendCount : Nat
  /-- The toggle the REQUEST frame carries or carried (R6, R78). -/
  sentToggle : Bool
  quietTime : Nat
  gap : Nat
  deriving DecidableEq, Repr

/-- The link state of a line after hardware reset (R19). -/
def Link.reset : Link :=
  { transmitter := .idle, receiver := .armed, check := 0xFFFF, charCount := 0, control := 0, length := 0,
    checkHigh := 0, stored := 0, sendCount := 0, sentToggle := false, quietTime := 0, gap := 0 }

/-- A Line Engine after hardware reset, by the level of its strap (R57, R64). -/
def Engine.reset (strap : Bool) : Engine :=
  { mode := if strap then .off else .absent, drainKind := none, state := .disabled, active := none, phase := none,
    resynced := false, queue := [], config := LineConfig.default, leadTimer := none, holdTimer := none,
    replyTimer := none, stuckTimer := none, stuckRaised := false, gapWatch := false }

/-! ### Station Table (chapter 5) -/

/-- Whether the controller knows which toggle a station will take as new (R87). -/
inductive Sync where
  | unsync | synced
  deriving DecidableEq, Repr

/-- A station record (R87). -/
structure Station where
  failureCount : Nat
  replied : Bool
  sync : Sync
  toggle : Bool
  deriving DecidableEq, Repr

/-- A station record after reset (R99). -/
def Station.reset : Station := { failureCount := 0, replied := false, sync := .unsync, toggle := false }

/-- Derived states (R88). -/
inductive Derived where
  | unknown | online | suspect | offline
  deriving DecidableEq, Repr

/-- The Station Table's part for one line: the records of stations 1 to 31 (the record of station n is at index
n - 1; station 0 has none, R87) and the change set as the 32-bit map that QUERY CHANGES returns (R95, R96). -/
structure StationLine where
  records : Table 31 Station
  changes : BitVec 32
  deriving DecidableEq, Repr

/-- The Station Table's part for one line after reset (R99). -/
def StationLine.reset : StationLine := { records := Table.fill 31 Station.reset, changes := 0 }

/-! ### Poll Scheduler (chapter 6) -/

/-- Report policies (section 6.1). -/
inductive Policy where
  | onChange | always | statusOnly
  deriving DecidableEq, Repr

/-- The definition of a poll entry, the six fields that POLL_SET writes (R103). -/
structure PollDef where
  enabled : Bool
  station : StationAddr
  item : Byte
  replyRoom : Nat
  policy : Policy
  retryLimit : Nat
  deriving DecidableEq, Repr

/-- A poll entry (section 6.1). -/
structure PollEntry where
  definition : PollDef
  digest : Option Word16
  live : Option SlotNo
  deriving DecidableEq, Repr

/-- A poll entry after hardware reset (R119). -/
def PollEntry.reset : PollEntry :=
  { definition := { enabled := false, station := 1, item := 0, replyRoom := 0, policy := .onChange, retryLimit := 0 },
    digest := none, live := none }

/-- Run states (section 6.2). -/
inductive RunState where
  | stopped | running
  deriving DecidableEq, Repr

/-- A Poll Scheduler (sections 6.1 and 6.2). -/
structure Scheduler where
  entries : Table 16 PollEntry
  run : RunState
  period : Nat
  cycleTimer : Nat
  cycleNumber : Word16
  due : List EntryNo
  deferrals : Nat
  deriving DecidableEq, Repr

/-- A Poll Scheduler after hardware reset (R119). -/
def Scheduler.reset : Scheduler :=
  { entries := Table.fill 16 PollEntry.reset, run := .stopped, period := 1000, cycleTimer := 0, cycleNumber := 0,
    due := [], deferrals := 0 }

/-! ### Completion Queue (chapter 7) -/

/-- Record kinds (R123). -/
inductive RecordKind where
  | transaction | pollReport
  deriving DecidableEq, Repr

/-- A completion record (R123). -/
structure Record where
  slot : SlotNo
  kind : RecordKind
  derived : Derived
  deriving DecidableEq, Repr

/-- The hold state (R132). -/
inductive HoldState where
  | freeRunning | held
  deriving DecidableEq, Repr

/-- The Completion Queue (section 7.1). -/
structure CompletionQueue where
  records : List Record
  headerPos : Nat
  hold : HoldState
  highMark : Nat
  lowMark : Nat
  trigger : Nat
  deriving DecidableEq, Repr

/-- The Completion Queue after hardware reset (R135). -/
def CompletionQueue.reset : CompletionQueue :=
  { records := [], headerPos := 0, hold := .freeRunning, highMark := 12, lowMark := 4, trigger := 1 }

/-! ### Command Port (chapter 8) -/

/-- Assembler states (section 8.1). -/
inductive Assembler where
  | ready | collect | payload | respond
  deriving DecidableEq, Repr

/-- The thirteen opcodes (section 11.5). -/
inductive Opcode where
  | submit | cancel | purge | lineSet | lineOn | lineOff | lineReset | pollSet | pollRun | pollHalt | stationSet
  | query | queueSet
  deriving DecidableEq, Repr

/-- The response codes (section 11.5). -/
inductive ResponseCode where
  | accepted | done | aborted | badOpcode | badParam | noLine | lineOff | lineBusy | noSlot | noRoom | shortPayload
  | notCancellable | entryBusy
  deriving DecidableEq, Repr

/-- A response: a code and its info bytes (R147). -/
structure Response where
  code : ResponseCode
  info : List Byte
  deriving DecidableEq, Repr

/-- The Command Port (section 8.1), with the number of the LOADING slot that its assembly holds (R22). -/
structure CommandPort where
  state : Assembler
  opcode : Option Opcode
  params : List Byte
  loading : Option SlotNo
  response : Option Response
  position : Nat
  lost : Bool
  deriving DecidableEq, Repr

/-- The Command Port after either reset (R144). -/
def CommandPort.reset : CommandPort :=
  { state := .ready, opcode := none, params := [], loading := none, response := none, position := 0, lost := false }

/-! ### Data Port (chapter 9) -/

/-- Who owns the Data Port (section 9.1). -/
inductive Owner where
  | none | intake | outflow
  deriving DecidableEq, Repr

/-- A raised INTAKE request: its byte total and the DMA flag of its SUBMIT (R164). -/
structure IntakeRequest where
  total : Nat
  dma : Bool
  deriving DecidableEq, Repr

/-- A raised OUTFLOW request: its byte total and the head record's slot (R164). -/
structure OutflowRequest where
  total : Nat
  slot : SlotNo
  deriving DecidableEq, Repr

/-- The Data Port (section 9.1); DRQ stands among the pins. -/
structure DataPort where
  owner : Owner
  intake : Option IntakeRequest
  outflow : Option OutflowRequest
  moved : Nat
  dmaUsed : Bool
  halted : Bool
  resultDma : Bool
  deriving DecidableEq, Repr

/-- The Data Port after either reset (R173). -/
def DataPort.reset : DataPort :=
  { owner := .none, intake := none, outflow := none, moved := 0, dmaUsed := false, halted := false, resultDma := false }

/-! ### Event Unit (chapter 10) -/

/-- The six event kinds, in the order of section 10.1. -/
inductive EventKind where
  | lineStuck | stationChange | cycleOverrun | completion | dmaEnd | response
  deriving DecidableEq, Repr

/-- The Event Unit (section 10.1): the latch flags, the EVENT MASK (bit n is the enable of kind n of section 11.6)
and BUS_ENABLE. -/
structure EventUnit where
  stuck : Table 4 Bool
  overrun : Table 4 Bool
  dmaEnd : Bool
  mask : BitVec 6
  busEnable : Bool
  deriving DecidableEq, Repr

/-- The Event Unit after either reset (R181). -/
def EventUnit.reset : EventUnit :=
  { stuck := Table.fill 4 false, overrun := Table.fill 4 false, dmaEnd := false, mask := 0, busEnable := false }

/-! ### Pins (section 11.7) -/

/-- The output pins other than the data bus: INT and DRQ (`none` while undriven, R180), the transmit outputs (true for
mark, R1) and the driver-enable outputs (R1). -/
structure Pins where
  int : Option Bool
  drq : Option Bool
  tx : Table 4 Bool
  de : Table 4 Bool
  deriving DecidableEq, Repr

/-- The output pins in and right after a reset (R181, R173, R1). -/
def Pins.reset : Pins := { int := none, drq := none, tx := Table.fill 4 true, de := Table.fill 4 false }

/-! ### The whole machine -/

/-- The state of the 430. -/
structure State where
  /-- The reset input is active (R185). -/
  inReset : Bool
  /-- The strap values held by the Register Window (R185); bit n is LINE_EN n. -/
  straps : BitVec 4
  /-- The tick counter (R186). -/
  tick : Word16
  /-- The latch of the tick counter's high byte (R186). -/
  tickLatch : Byte
  slots : Table 16 Slot
  pool : Pool
  engines : Table 4 Engine
  links : Table 4 Link
  stations : Table 4 StationLine
  scheds : Table 4 Scheduler
  queue : CompletionQueue
  port : CommandPort
  data : DataPort
  events : EventUnit
  pins : Pins
  /-- The byte that the latest read or read acknowledge drove onto D0 to D7 (section 11.7). -/
  dataBus : Byte
  /-- The commands that wait, first in, first out (the model's own field: what the part is about to meet). -/
  pending : List Instr
  deriving DecidableEq, Repr

/-- The pool after hardware reset (R56). -/
def Pool.reset : Pool := { mem := [], free := List.finRange 128, leastFree := 128, hostReserve := 16 }

/-- The machine right after a hardware reset that sampled the given straps (R185). -/
def State.resetWith (straps : BitVec 4) : State :=
  { inReset := false, straps := straps, tick := 0, tickLatch := 0, slots := Table.fill 16 Slot.cleared,
    pool := Pool.reset, engines := Table.make fun l => Engine.reset (straps.getLsb l),
    links := Table.fill 4 Link.reset, stations := Table.fill 4 StationLine.reset, scheds := Table.fill 4 Scheduler.reset,
    queue := CompletionQueue.reset, port := CommandPort.reset, data := DataPort.reset, events := EventUnit.reset,
    pins := Pins.reset, dataBus := 0, pending := [] }

/-- The machine right after hardware reset, with every line wired (log entry 1). -/
def State.reset : State := State.resetWith Config.strapsAtReset

end Sys2Proof.Machine
end

