-- ==== Sys2Proof/Machine/Ops.lean ====
section
/-! DEFINITION. The bytes of words and numbers, and the named operations over the blocks' state: access to one record
of a table, the payload memory, the Block Pool's lending and return, the pending queues, station records with the change
set, and the Completion Queue's append and removal. Every meaning is written over these. -/

namespace Sys2Proof

/-! ### Bytes of words and numbers (section 5.2) -/

/-- The low byte of a 16-bit word (section 5.2: little-endian on the host side). -/
def lowByte (w : Word16) : Byte := w.extractLsb' 0 8

/-- The high byte of a 16-bit word. -/
def highByte (w : Word16) : Byte := w.extractLsb' 8 8

/-- The 16-bit word with the given low and high bytes. -/
def wordOf (low high : Byte) : Word16 := high ++ low

/-- A number as a byte. -/
def byteOf (n : Nat) : Byte := BitVec.ofNat 8 n

/-- A flag as a byte: 0 clear, 1 set (section 11.6). -/
def flagByte (b : Bool) : Byte := if b then 1 else 0

/-- A number as its two bytes, low byte first (section 5.2). -/
def twoBytes (n : Nat) : List Byte := [lowByte (BitVec.ofNat 16 n), highByte (BitVec.ofNat 16 n)]

end Sys2Proof

namespace Sys2Proof.Machine

/-! ### One record of a table -/

def State.slot (s : State) (n : SlotNo) : Slot := s.slots.look n
def State.engine (s : State) (l : Line) : Engine := s.engines.look l
def State.link (s : State) (l : Line) : Link := s.links.look l
def State.stationLine (s : State) (l : Line) : StationLine := s.stations.look l
def State.sched (s : State) (l : Line) : Scheduler := s.scheds.look l
def State.entry (s : State) (l : Line) (e : EntryNo) : PollEntry := (s.sched l).entries.look e

def State.setSlot (s : State) (n : SlotNo) (x : Slot) : State := { s with slots := s.slots.put n x }
def State.setEngine (s : State) (l : Line) (x : Engine) : State := { s with engines := s.engines.put l x }
def State.setLink (s : State) (l : Line) (x : Link) : State := { s with links := s.links.put l x }
def State.setStationLine (s : State) (l : Line) (x : StationLine) : State := { s with stations := s.stations.put l x }
def State.setSched (s : State) (l : Line) (x : Scheduler) : State := { s with scheds := s.scheds.put l x }
def State.setEntry (s : State) (l : Line) (e : EntryNo) (x : PollEntry) : State :=
  s.setSched l { s.sched l with entries := (s.sched l).entries.put e x }

def State.modSlot (s : State) (n : SlotNo) (f : Slot → Slot) : State := s.setSlot n (f (s.slot n))
def State.modEngine (s : State) (l : Line) (f : Engine → Engine) : State := s.setEngine l (f (s.engine l))
def State.modLink (s : State) (l : Line) (f : Link → Link) : State := s.setLink l (f (s.link l))
def State.modSched (s : State) (l : Line) (f : Scheduler → Scheduler) : State := s.setSched l (f (s.sched l))
def State.modEntry (s : State) (l : Line) (e : EntryNo) (f : PollEntry → PollEntry) : State :=
  s.setEntry l e (f (s.entry l e))

/-! ### Payload memory (section 3.1, R45, R50) -/

/-- The byte at an address; an unlisted address reads 0 (R45: hardware reset writes 0 into every byte). -/
def Memory.read : Memory → Nat → Byte
  | [], _ => 0
  | (k, v) :: m, a => if k = a then v else Memory.read m a

/-- The memory with one byte written, in canonical form: a byte of value 0 is not listed. -/
def Memory.write : Memory → Nat → Byte → Memory
  | [], a, b => if b = 0#8 then [] else [(a, b)]
  | (k, v) :: m, a, b =>
    if a < k then (if b = 0#8 then (k, v) :: m else (a, b) :: (k, v) :: m)
    else if a = k then (if b = 0#8 then m else (a, b) :: m)
    else (k, v) :: Memory.write m a b

/-- The bytes of the pool: 128 blocks of 16 (R45). -/
def poolBytes : Nat := 2048

/-- The canonical form: addresses strictly rising from a bound, below the pool's size, no entry of value 0. -/
def Memory.wfFrom (lo : Nat) : Memory → Bool
  | [] => true
  | (k, v) :: m => decide (lo ≤ k) && decide (k < poolBytes) && v != 0#8 && Memory.wfFrom (k + 1) m

/-- The canonical form of the payload memory. -/
def Memory.wf (m : Memory) : Bool := Memory.wfFrom 0 m

/-- The address of payload byte i of a chain (R50), if the chain has a block for it. -/
def chainAddress (chain : List BlockNo) (i : Nat) : Option Nat :=
  chain[i / 16]?.map fun b => 16 * b.val + i % 16

/-- Payload byte i of a chain (R50). A position beyond the chain reads 0; no rule reads one (log entry 6). -/
def State.chainByte (s : State) (chain : List BlockNo) (i : Nat) : Byte :=
  match chainAddress chain i with
  | some a => Memory.read s.pool.mem a
  | none => 0

/-- Write payload byte i of a chain (R50). A position beyond the chain is not written; no rule writes one. -/
def State.putChainByte (s : State) (chain : List BlockNo) (i : Nat) (b : Byte) : State :=
  match chainAddress chain i with
  | some a => { s with pool := { s.pool with mem := Memory.write s.pool.mem a b } }
  | none => s

/-- The first n payload bytes of a chain, in order. -/
def State.chainBytes (s : State) (chain : List BlockNo) (n : Nat) : List Byte :=
  (List.range n).map (s.chainByte chain)

/-! ### Block Pool (R47, R49) and Slot Table (R20, R23) -/

/-- The blocks in a chain of n bytes: ceil(n / 16) (R23). -/
def blocksFor (n : Nat) : Nat := (n + 15) / 16

/-- The free count (R46). -/
def State.freeCount (s : State) : Nat := s.pool.free.length

/-- The slot is FREE. -/
def Slot.isFree (x : Slot) : Bool := x.state == .free

/-- The number of FREE slots. -/
def State.freeSlots (s : State) : Nat := ((List.finRange 16).filter fun n => (s.slot n).isFree).length

/-- The lowest-numbered FREE slot (R23). -/
def State.lowestFree (s : State) : Option SlotNo := (List.finRange 16).find? fun n => (s.slot n).isFree

/-- Take n blocks from the head of the free list (R47); the caller has found the free count at least n. -/
def State.lend (s : State) (n : Nat) : State :=
  { s with pool := { s.pool with free := s.pool.free.drop n,
                                 leastFree := min s.pool.leastFree (s.pool.free.length - n) } }

/-- Make a new slot of a record whose chains are still to be lent (R23, R47): the first blocks of the free list form
the request chain and the next ones the reply chain. -/
def State.create (s : State) (n : SlotNo) (x : Slot) : State :=
  let q := blocksFor x.requestLength
  let r := blocksFor x.replyRoom
  (s.lend (q + r)).setSlot n
    { x with requestChain := s.pool.free.take q, replyChain := (s.pool.free.drop q).take r }

/-- A slot becomes FREE by any path but a soft reset: its blocks go to the tail of the free list, request chain first,
and the cleared record is written (R49, R20). -/
def State.freeSlot (s : State) (n : SlotNo) : State :=
  ({ s with pool := { s.pool with free := s.pool.free ++ (s.slot n).requestChain ++ (s.slot n).replyChain } }).setSlot n
    Slot.cleared

/-! ### Pending queues (R29, R32, R66) -/

/-- The rank of a class in a pending queue: URGENT before NORMAL before POLL (R66). -/
def SlotClass.rank : SlotClass → Nat
  | .urgent => 0
  | .normal => 1
  | .poll => 2

/-- The rank of a slot. -/
def State.rankOf (s : State) (n : SlotNo) : Nat := (s.slot n).cls.rank

/-- The queue with a slot placed at the tail of its class (R29). -/
def State.atTailOfClass (s : State) (q : List SlotNo) (n : SlotNo) : List SlotNo :=
  q.takeWhile (fun m => decide (s.rankOf m ≤ s.rankOf n)) ++ n :: q.dropWhile (fun m => decide (s.rankOf m ≤ s.rankOf n))

/-- The queue with a slot placed at the head of its class (R32). -/
def State.atHeadOfClass (s : State) (q : List SlotNo) (n : SlotNo) : List SlotNo :=
  q.takeWhile (fun m => decide (s.rankOf m < s.rankOf n)) ++ n :: q.dropWhile (fun m => decide (s.rankOf m < s.rankOf n))

/-- A slot becomes QUEUED at the tail of its class in its line's queue (R29). -/
def State.joinTail (s : State) (n : SlotNo) : State :=
  (s.modSlot n fun x => { x with state := .queued }).modEngine (s.slot n).line fun e =>
    { e with queue := s.atTailOfClass e.queue n }

/-- A slot becomes QUEUED at the head of its class in its line's queue (R32). -/
def State.joinHead (s : State) (n : SlotNo) : State :=
  (s.modSlot n fun x => { x with state := .queued }).modEngine (s.slot n).line fun e =>
    { e with queue := s.atHeadOfClass e.queue n }

/-! ### Station Table (chapter 5) -/

/-- The index of a station's record; station 0 has none (R87). -/
def stationIndex (a : StationAddr) : Option (Fin 31) :=
  if h : a.val = 0 then none else some ⟨a.val - 1, by omega⟩

/-- The derived state of a record under an offline threshold (R88). -/
def Station.derived (x : Station) (threshold : Nat) : Derived :=
  if threshold ≤ x.failureCount then .offline
  else if 0 < x.failureCount then .suspect
  else if x.replied then .online
  else .unknown

/-- The record of a station; station 0 has none, and reads as a record after reset (R87, R88: UNKNOWN). -/
def State.station (s : State) (l : Line) (a : StationAddr) : Station :=
  match stationIndex a with
  | some i => (s.stationLine l).records.look i
  | none => Station.reset

/-- The offline threshold of a line (R64). -/
def State.threshold (s : State) (l : Line) : Nat := (s.engine l).config.offlineThreshold

/-- The derived state of a station; UNKNOWN for station 0 (R88). -/
def State.derivedOf (s : State) (l : Line) (a : StationAddr) : Derived :=
  match stationIndex a with
  | some _ => (s.station l a).derived (s.threshold l)
  | none => .unknown

/-- The change from one derived state to the other crosses the OFFLINE boundary (R95). -/
def crossesOffline (old new : Derived) : Bool := (old == .offline) != (new == .offline)

/-- The map bit of a station address (R96). -/
def stationBit (a : StationAddr) : BitVec 32 := 1#32 <<< a.val

/-- Write a station record; a station that crosses the OFFLINE boundary joins the change set (R95). Station 0 has no
record and nothing is written. -/
def State.updateStation (s : State) (l : Line) (a : StationAddr) (f : Station → Station) : State :=
  match stationIndex a with
  | none => s
  | some i =>
    let old := s.station l a
    let new := f old
    let joins := crossesOffline (old.derived (s.threshold l)) (new.derived (s.threshold l))
    s.setStationLine l
      { records := (s.stationLine l).records.put i new,
        changes := if joins then (s.stationLine l).changes ||| stationBit a else (s.stationLine l).changes }

/-! ### Completion Queue (R124, R132, R43) -/

/-- The hold state for a number of records (R132). -/
def CompletionQueue.evaluated (q : CompletionQueue) : CompletionQueue :=
  { q with hold := if q.highMark ≤ q.records.length then .held
                   else if q.records.length ≤ q.lowMark then .freeRunning
                   else q.hold }

/-- Append a record at the tail and evaluate the hold state (R124). -/
def State.appendRecord (s : State) (r : Record) : State :=
  let q := { s.queue with records := s.queue.records ++ [r],
                          headerPos := if s.queue.records = [] then 0 else s.queue.headerPos }
  { s with queue := q.evaluated }

/-- Remove the head record, so that the next one is the head in its header phase, and evaluate the hold state
(R127, R129, R130). -/
def State.dropRecord (s : State) : State :=
  let q := { s.queue with records := s.queue.records.tail, headerPos := 0 }
  { s with queue := q.evaluated }

/-! ### Command Port and Event Unit -/

/-- Post a response (R139): its bytes are fixed, the position becomes 0, opcode and parameter bytes are discarded and
the assembler enters RESPOND. The LOADING slot, if there was one, has left the port's assembly. -/
def State.post (s : State) (code : ResponseCode) (info : List Byte) : State :=
  { s with port := { s.port with state := .respond, opcode := none, params := [], loading := none,
                                 response := some { code := code, info := info }, position := 0 } }

/-- A byte is dropped: LOST is set (R138, R166). -/
def State.setLost (s : State) : State := { s with port := { s.port with lost := true } }

/-- Raise DMA_END (R174). -/
def State.raiseDmaEnd (s : State) : State := { s with events := { s.events with dmaEnd := true } }

/-- Raise LINE_STUCK for a line (R174, R83). -/
def State.raiseStuck (s : State) (l : Line) : State :=
  { s with events := { s.events with stuck := s.events.stuck.put l true } }

/-- Raise CYCLE_OVERRUN for a line (R174, R108). -/
def State.raiseOverrun (s : State) (l : Line) : State :=
  { s with events := { s.events with overrun := s.events.overrun.put l true } }

end Sys2Proof.Machine
end

