-- ==== Sys2Proof/Machine/Link.lean ====
section
/-! DEFINITION. The drop link (chapter 1): characters on the wire, the check, and the characters of the frames the
controller sends. -/

namespace Sys2Proof.Machine

/-! ### The check (R11) -/

/-- Feed one bit into the check register (R11, step 4). -/
def crcBit (reg : Word16) (bit : Bool) : Word16 :=
  if reg.msb != bit then (reg <<< 1) ^^^ 0x1021 else reg <<< 1

/-- Feed one byte, most significant bit first (R11, step 3). -/
def crcByte (reg : Word16) (b : Byte) : Word16 :=
  [7, 6, 5, 4, 3, 2, 1, 0].foldl (fun r i => crcBit r (b.getLsbD i)) reg

/-- Feed bytes in order. -/
def crcBytes (reg : Word16) (bs : List Byte) : Word16 := bs.foldl crcByte reg

/-- The starting value of the check register (R11, step 1). -/
def crcStart : Word16 := 0xFFFF

/-- The digest of a payload (R18). -/
def digestOf (payload : List Byte) : Word16 := crcBytes crcStart payload

/-! ### Characters (R2, R3, R4) -/

/-- The 11 positions of a character, bit i for position i + 1: start bit (space), data bits least significant first,
marker bit, stop bit (mark) (section 1.2). -/
def wireBits (data : Byte) (marker : Bool) : BitVec 11 :=
  (BitVec.ofBool true ++ BitVec.ofBool marker ++ data ++ BitVec.ofBool false).cast (by decide)

/-- The data byte of a received character (R3). -/
def sampleData (samples : BitVec 10) : Byte := samples.extractLsb' 0 8

/-- The marker value of a received character (R3). -/
def sampleMarker (samples : BitVec 10) : Bool := samples.getLsbD 8

/-- The stop indication of a received character is sound: the stop sample read mark (R3). -/
def sampleSound (samples : BitVec 10) : Bool := samples.getLsbD 9

/-- How many bit positions at the end of n sampled ones read mark without interruption (R5): the quiet time, in bit times, at
the end of a stop bit. Position i reads mark when `mark i` holds. -/
def marksAtEnd (n : Nat) (mark : Nat → Bool) : Nat := ((List.range n).reverse.takeWhile mark).length

/-! ### Fields of the address and control characters (section 11.4) -/

/-- The station field of an address character. -/
def addressStation (b : Byte) : Nat := (b.extractLsb' 0 5).toNat

/-- The direction field says "from station", and the unused bits are zero (R7). -/
def addressFromStation (b : Byte) : Bool := b.getLsbD 7 && b.extractLsb' 5 2 == 0

/-- The kind code of a control character. -/
def controlKind (b : Byte) : Nat := (b.extractLsb' 0 4).toNat

/-- The unused bits of a control character are zero (R8). -/
def controlUnusedZero (b : Byte) : Bool := b.extractLsb' 4 3 == 0

/-- The toggle of a control character. -/
def controlToggle (b : Byte) : Bool := b.getLsbD 7

def kindRequest : Nat := 1
def kindReply : Nat := 2
def kindBusy : Nat := 3
def kindResync : Nat := 4
def kindResyncAck : Nat := 5
def kindBroadcast : Nat := 6

/-- A control character with its unused bits zero. -/
def controlByte (kind : Nat) (toggle : Bool) : Byte := byteOf (if toggle then kind + 128 else kind)

/-- The address character of a frame from the controller (R6). -/
def addressByte (a : StationAddr) : Byte := byteOf a.val

/-! ### The frame being sent (R6, R52, R71) -/

/-- The number of payload bytes of the frame of a phase (R6). -/
def frameLength (x : Slot) : Phase → Nat
  | .resync => 0
  | .request => x.requestLength
  | .broadcast => x.requestLength

/-- The number of characters of a frame: 5 + n (section 1.3). -/
def frameChars (x : Slot) (p : Phase) : Nat := 5 + frameLength x p

/-- The control character of the frame of a phase (R6). -/
def frameControl (p : Phase) (toggle : Bool) : Byte :=
  match p with
  | .resync => controlByte kindResync false
  | .request => controlByte kindRequest toggle
  | .broadcast => controlByte kindBroadcast false

/-- The data byte of character k of the frame of a phase, counted from 1: address, control, length, payload, check
high, check low (R6). `check` is the check register with all characters before k fed. -/
def State.frameByte (s : State) (x : Slot) (p : Phase) (toggle : Bool) (check : Word16) (k : Nat) : Byte :=
  if k = 1 then addressByte x.station
  else if k = 2 then frameControl p toggle
  else if k = 3 then byteOf (frameLength x p)
  else if k ≤ 3 + frameLength x p then s.chainByte x.requestChain (k - 4)
  else if k = 4 + frameLength x p then highByte check
  else lowByte check

/-- Begin character k of the frame of a phase on a line (R2, R6): the marker is 1 on the address character alone, and
every character before the check is fed into the check register. What the receive input reads meanwhile, the read-back
says at the end of the character (R4, R5). -/
def State.beginCharacter (s : State) (l : Line) (x : Slot) (p : Phase) (k : Nat) : State :=
  let lk := s.link l
  let b := s.frameByte x p lk.sentToggle lk.check k
  s.setLink l
    { lk with transmitter := .sending b (k == 1) 1 [],
              check := if k ≤ 3 + frameLength x p then crcByte lk.check b else lk.check,
              sendCount := k }

/-- The transmitter stops: its output is at mark. -/
def Link.stopSending (lk : Link) : Link := { lk with transmitter := .idle, sendCount := 0 }

/-- The receiver and transmitter after a soft reset or LINE_RESET (R19): every character is cut or discarded, check
register, character count, quiet time and gap start again, and the receiver is armed once the input reads mark. -/
def Link.cut (lk : Link) : Link :=
  { lk with transmitter := .idle, receiver := .waitMark, check := 0xFFFF, charCount := 0, sendCount := 0,
            quietTime := 0, gap := 0 }

/-- A changed divisor takes effect (R19): the receiver discards a partial character, and quiet time and gap start from
zero. -/
def Link.newDivisor (lk : Link) : Link :=
  { lk with receiver := match lk.receiver with
              | .assembling _ => .armed
              | r => r,
            quietTime := 0, gap := 0 }

/-! ### Judgement of a complete reply (R13, R78) -/

/-- The verdicts on an exchange that the engine hands on (section 4.6). -/
inductive Verdict where
  | goodReply
  | goodAck
  | replyTooLong
  | failed (f : Failure)
  deriving DecidableEq, Repr

/-- A reply is well-formed for the phase (R13). -/
def wellFormedReply (p : Phase) (control : Byte) (length : Nat) : Bool :=
  let kind := controlKind control
  controlUnusedZero control &&
    ((p == .request && kind == kindReply && decide (length ≤ 240)) ||
     ((p == .request || p == .resync) && kind == kindBusy && length == 0) ||
     (p == .resync && kind == kindResyncAck && length == 0 && !controlToggle control))

/-- The judgement of a complete reply (R78), in its order: the check, the form, the length against the room, the
toggle. -/
def judgeFrame (p : Phase) (checkGood : Bool) (control : Byte) (length room : Nat) (sentToggle : Bool) : Verdict :=
  if !checkGood then .failed .garbled
  else if !wellFormedReply p control length then .failed .garbled
  else if p == .request && controlKind control == kindReply && decide (room < length) then .replyTooLong
  else if p == .request && controlKind control == kindReply && controlToggle control != sentToggle then .failed .stale
  else if controlKind control == kindBusy then .failed .busy
  else if p == .request then .goodReply
  else .goodAck

end Sys2Proof.Machine
end

