-- ==== Sys2Proof/Machine/Transactions.lean ====
section
/-! DEFINITION. The end of a transaction: completion (R35), the desynchronization rule (R36), what a Poll Scheduler
makes of a completed poll (R113 to R116), and the retirement of the head record (R43). -/

namespace Sys2Proof.Machine

/-- The outcome of a slot whose attempts are exhausted, by its last failure (R34). -/
def Failure.outcome : Failure → TransactionOutcome
  | .silence => .noReply
  | .garbled => .garbled
  | .wrongStation => .wrongStation
  | .stale => .stale
  | .busy => .busy
  | .collision => .collision

/-- The outcome a cancel pending flag carries (R34). -/
def PendingOutcome.outcome : PendingOutcome → TransactionOutcome
  | .cancelled => .cancelled
  | .lineDown => .lineDown

/-- The outcome is OK or SENT, the two that leave the station in step (R36). -/
def TransactionOutcome.inStep (o : TransactionOutcome) : Bool := o == .ok || o == .sent

/-- The station becomes UNSYNC; every other field is kept (R91, R93). -/
def Station.unsynced (x : Station) : Station := { x with sync := .unsync }

/-- The desynchronization rule (R36, R91): request sent set and an outcome other than OK or SENT leave the station
UNSYNC. -/
def State.desync (s : State) (n : SlotNo) (o : TransactionOutcome) : State :=
  if (s.slot n).requestSent && !o.inStep then
    s.updateStation (s.slot n).line (s.slot n).station Station.unsynced
  else s

/-- The poll entry of a POLL slot: its tag is the entry's index (R25). -/
def Slot.entryNo (x : Slot) : EntryNo := Fin.ofNat 16 x.tag.toNat

/-- The slot becomes DONE and its record joins the queue (R35, R124): the captured state is the station's derived
state as it stands now. -/
def State.handToQueue (s : State) (n : SlotNo) (kind : RecordKind) : State :=
  (s.modSlot n fun x => { x with state := .done }).appendRecord
    { slot := n, kind := kind, derived := s.derivedOf (s.slot n).line (s.slot n).station }

/-- An entry reports a good answer of digest d, by its policy (R114). -/
def PollEntry.reports (e : PollEntry) (d : Word16) : Bool :=
  match e.definition.policy with
  | .onChange => e.digest != some d
  | .always => true
  | .statusOnly => false

/-- The digest of a completed poll: of reply bytes 0 to reply length - 1 (R114, R18). -/
def State.replyDigest (s : State) (n : SlotNo) : Word16 :=
  digestOf (s.chainBytes (s.slot n).replyChain ((s.slot n).replyLength.getD 0))

/-- What the scheduler of its line makes of a completed POLL slot (R114, R115, R116). -/
def State.pollHandOn (s : State) (n : SlotNo) (o : TransactionOutcome) : State :=
  let l := (s.slot n).line
  let e := (s.slot n).entryNo
  if o = .ok then
    let d := s.replyDigest n
    let t := s.modEntry l e fun x => { x with digest := some d }
    if (s.entry l e).reports d then t.handToQueue n .pollReport
    else (t.freeSlot n).modEntry l e fun x => { x with live := none }
  else (s.freeSlot n).modEntry l e fun x => { x with digest := none, live := none }

/-- Step 3 of R35: the slot is handed on according to its origin. -/
def State.handOn (s : State) (n : SlotNo) (o : TransactionOutcome) : State :=
  match (s.slot n).origin with
  | .host => s.handToQueue n .transaction
  | .poll => s.pollHandOn n o

/-- The completion of a slot with an outcome (R35): outcome and done time, then R36, then the slot is handed on. The
slot's place (pending queue or engine) is cleared by the happening that completes it. -/
def State.complete (s : State) (n : SlotNo) (o : TransactionOutcome) : State :=
  let t := s.modSlot n fun x => { x with outcome := some o, doneTime := s.tick }
  (t.desync n o).handOn n o

/-- Complete slots with one outcome, in order. -/
def State.completeAll (s : State) (ns : List SlotNo) (o : TransactionOutcome) : State :=
  ns.foldl (fun t n => t.complete n o) s

/-- Every QUEUED slot of a line completes, in queue order from the head, and the queue is empty (R40, R41, R42). -/
def State.completeQueue (s : State) (l : Line) (o : TransactionOutcome) : State :=
  (s.modEngine l fun e => { e with queue := [] }).completeAll (s.engine l).queue o

/-- A poll entry forgets a slot that has retired, if it still names it (R43, step 4). -/
def PollEntry.forget (e : PollEntry) (n : SlotNo) : PollEntry :=
  if e.live = some n then { e with live := none } else e

/-- The head record leaves the list and its slot becomes FREE (R43); nothing on an empty list. -/
def State.retireHead (s : State) : State :=
  match s.queue.records with
  | [] => s
  | r :: _ =>
    let x := s.slot r.slot
    let t := s.dropRecord.freeSlot r.slot
    if x.origin = .poll then t.modEntry x.line x.entryNo fun e => e.forget r.slot else t

end Sys2Proof.Machine
end

