-- ==== Sys2Proof/Machine/DataPort.lean ====
section
/-! DEFINITION. The Data Port (chapter 9): its arbiter, the moves of one byte by the host processor or by DMA, and
the ends of a transfer; and the readout of the head record (chapter 7), which raises OUTFLOW. -/

namespace Sys2Proof.Machine

/-! ### The arbiter (R164, R165) -/

/-- The port is handed to a requester, or to none: moved count 0 and both flags cleared (R165). -/
def DataPort.grant (d : DataPort) (o : Owner) : DataPort :=
  { d with owner := o, moved := 0, dmaUsed := false, halted := false }

/-- INTAKE is raised (R164): it becomes the owner at once when there is none, and waits otherwise. -/
def DataPort.raiseIntake (d : DataPort) (r : IntakeRequest) : DataPort :=
  let d' := { d with intake := some r }
  if d.owner = .none then d'.grant .intake else d'

/-- OUTFLOW is raised (R164). -/
def DataPort.raiseOutflow (d : DataPort) (r : OutflowRequest) : DataPort :=
  let d' := { d with outflow := some r }
  if d.owner = .none then d'.grant .outflow else d'

/-- The INTAKE request ends or is withdrawn: if it owned the port, the port is released and a waiting OUTFLOW is
granted in the same happening (R165, R169, R170, R172). -/
def DataPort.endIntake (d : DataPort) : DataPort :=
  let d' := { d with intake := none }
  if d.owner = .intake then d'.grant (if d.outflow.isSome then .outflow else .none) else d'

/-- The OUTFLOW request ends or is withdrawn; a waiting INTAKE is granted (R165, R169, R172). -/
def DataPort.endOutflow (d : DataPort) : DataPort :=
  let d' := { d with outflow := none }
  if d.owner = .outflow then d'.grant (if d.intake.isSome then .intake else .none) else d'

/-- The byte total of the owner's transfer. -/
def DataPort.total (d : DataPort) : Nat :=
  match d.owner with
  | .none => 0
  | .intake => (d.intake.map IntakeRequest.total).getD 0
  | .outflow => (d.outflow.map OutflowRequest.total).getD 0

/-- One byte is moved (R169): the moved count rises, and a DMA acknowledge sets DMA used (R168). -/
def DataPort.movedByte (d : DataPort) (dma : Bool) : DataPort :=
  { d with moved := d.moved + 1, dmaUsed := d.dmaUsed || dma }

/-- The moved count has reached the owner's total. -/
def DataPort.complete (d : DataPort) : Bool := decide (d.total ≤ d.moved)

def State.modData (s : State) (f : DataPort → DataPort) : State := { s with data := f s.data }

/-! ### Intake (R27, R28, R143, R169, R170) -/

/-- The last of the request length bytes is written (R27, R143): the slot becomes QUEUED, the port posts ACCEPTED with
its number, and the request ends. -/
def State.intakeComplete (s : State) : State :=
  match s.port.loading with
  | none => s.modData DataPort.endIntake
  | some n => ((s.joinTail n).post .accepted [byteOf n.val]).modData DataPort.endIntake

/-- The intake ends without its payload (R28, R142, R143, R170): the LOADING slot becomes FREE, a response is posted and
the request ends. -/
def State.intakeAbandoned (s : State) (code : ResponseCode) : State :=
  match s.port.loading with
  | none => (s.post code []).modData DataPort.endIntake
  | some n => ((s.freeSlot n).post code []).modData DataPort.endIntake

/-- The request chain being filled: the one of the LOADING slot. -/
def State.loadingChain (s : State) : List BlockNo :=
  match s.port.loading with
  | none => []
  | some n => (s.slot n).requestChain

/-- A byte is taken by an INTAKE owner (R169, R170): `dma` for a DMA acknowledge, `tc` for its terminal count. -/
def State.moveIn (s : State) (b : Byte) (dma tc : Bool) : State :=
  let t := (s.putChainByte s.loadingChain s.data.moved b).modData fun d => d.movedByte dma
  if tc then
    let u := t.raiseDmaEnd
    if t.data.complete then u.intakeComplete else u.intakeAbandoned .shortPayload
  else if t.data.complete then
    (if t.data.dmaUsed then t.raiseDmaEnd else t).intakeComplete
  else t

/-! ### Outflow (R54, R129, R169, R171) -/

/-- The last payload byte is delivered (R129): the record retires and the request ends. -/
def State.outflowComplete (s : State) : State := s.retireHead.modData DataPort.endOutflow

/-- The byte that an OUTFLOW owner delivers next (R169): payload byte number moved count of the reply chain. -/
def State.outflowByte (s : State) : Byte :=
  match s.data.outflow with
  | none => 0
  | some r => s.chainByte (s.slot r.slot).replyChain s.data.moved

/-- A byte is delivered by an OUTFLOW owner (R169, R171). -/
def State.moveOut (s : State) (dma tc : Bool) : State :=
  let t := s.modData fun d => d.movedByte dma
  if tc then
    let u := t.raiseDmaEnd
    if t.data.complete then u.outflowComplete
    else u.modData fun d => { d with halted := true, dmaUsed := false }
  else if t.data.complete then
    (if t.data.dmaUsed then t.raiseDmaEnd else t).outflowComplete
  else t

/-! ### Accesses (R166, R168) -/

/-- A write to DATA, or an acknowledge with a write strobe: taken by an INTAKE owner, dropped with LOST otherwise; the
terminal count of a dropped acknowledge is ignored. -/
def State.dataIn (s : State) (b : Byte) (dma tc : Bool) : State :=
  if s.data.owner = .intake then s.moveIn b dma tc else s.setLost

/-- A read of DATA, or an acknowledge with a read strobe: the byte driven and the state after. Any owner but OUTFLOW
drives 0 and changes nothing. -/
def State.dataOut (s : State) (dma tc : Bool) : Byte × State :=
  if s.data.owner = .outflow then (s.outflowByte, s.moveOut dma tc) else (0, s)

/-! ### The record header (R125 to R128) -/

def TransactionOutcome.code : TransactionOutcome → Byte
  | .ok => 1
  | .sent => 2
  | .cancelled => 3
  | .lineDown => 4
  | .replyTooLong => 5
  | .noReply => 6
  | .garbled => 7
  | .wrongStation => 8
  | .stale => 9
  | .busy => 10
  | .collision => 11

def Derived.code : Derived → Byte
  | .unknown => 0
  | .online => 1
  | .suspect => 2
  | .offline => 3

def RecordKind.code : RecordKind → Byte
  | .transaction => 0
  | .pollReport => 1

/-- The code of an outcome; 0 when absent (section 11.6). -/
def outcomeCode (o : Option TransactionOutcome) : Byte := (o.map TransactionOutcome.code).getD 0

/-- The ten bytes of a record header (R125, section 11.6). -/
def State.header (s : State) (r : Record) : List Byte :=
  let x := s.slot r.slot
  [r.kind.code, byteOf r.slot.val, x.tag, byteOf (x.line.val + 64 * r.derived.code.toNat), byteOf x.station.val,
   outcomeCode x.outcome, byteOf x.attempts, byteOf (x.replyLength.getD 0), lowByte x.doneTime, highByte x.doneTime]

/-- The length of a record header (R125). -/
def headerLength : Nat := 10

/-- A header byte is due (R128, HEADER_AVAIL). -/
def State.headerAvail (s : State) : Bool := !s.queue.records.isEmpty && decide (s.queue.headerPos < headerLength)

/-- The tenth header byte is delivered (R127): a record with no payload retires; otherwise OUTFLOW is raised for its
reply length. -/
def State.headerEnd (s : State) (r : Record) : State :=
  match (s.slot r.slot).replyLength.getD 0 with
  | 0 => s.retireHead
  | n + 1 =>
    ({ s with queue := { s.queue with headerPos := headerLength } }).modData fun d =>
      d.raiseOutflow { total := n + 1, slot := r.slot }

/-- A read of RESULT (R126, R127, R128): the byte delivered and the state after. -/
def State.readResult (s : State) : Byte × State :=
  match s.queue.records with
  | [] => (0, s)
  | r :: _ =>
    let p := s.queue.headerPos
    if p < headerLength then
      ((s.header r)[p]?.getD 0,
       if p + 1 = headerLength then s.headerEnd r else { s with queue := { s.queue with headerPos := p + 1 } })
    else (0, s)

/-- DISCARD_HEAD (R130): nothing on an empty list; otherwise the OUTFLOW request is withdrawn if it was raised, and the
head record retires. -/
def State.discard (s : State) : State :=
  match s.queue.records with
  | [] => s
  | _ :: _ => (s.modData fun d => if d.outflow.isSome then d.endOutflow else d).retireHead

/-- ABORT_CMD (R142): a partial command is discarded in COLLECT, the LOADING slot is freed in PAYLOAD; ABORTED is posted
in both. Nothing changes in READY or RESPOND. -/
def State.abort (s : State) : State :=
  match s.port.state with
  | .collect => s.post .aborted []
  | .payload => s.intakeAbandoned .aborted
  | .ready => s
  | .respond => s

/-- BUS_ENABLE (R180): a write to CONTROL gives it bit 3 of the byte written; a write that carries SOFT_RESET leaves it
at 0. -/
def State.writeBusEnable (s : State) (written : Byte) : State :=
  { s with events := { s.events with busEnable := written.getLsbD 3 && !written.getLsbD 0 } }

/-- RESULT_DMA (R167, R173): a write to CONTROL gives it bit 4 of the byte written, and the value on clears outflow
halted; a write that carries SOFT_RESET leaves it off. -/
def State.writeResultDma (s : State) (written : Byte) : State :=
  s.modData fun d =>
    { d with resultDma := written.getLsbD 4 && !written.getLsbD 0,
             halted := d.halted && !written.getLsbD 4 }

end Sys2Proof.Machine
end

