-- ==== Sys2Proof/Machine/Engine.lean ====
section
/-! DEFINITION. The Line Engine (chapter 4): entering and leaving SETTLE, sending, waiting, receiving, verdicts and
what follows them, and the cancellation of the active slot. A happening that the engine's state excludes (a timer
that does not run, a take by an engine that is not IDLE) changes nothing (log entry 3). -/

namespace Sys2Proof.Machine

/-- The lead time, in bit times (R67). -/
def leadTime : Nat := 2

/-- The stuck-line limit, in bit times (R82). -/
def stuckLimit : Nat := 704

/-! ### Leaving a slot, SETTLE and OFF -/

/-- The engine holds no slot (R68): phase none, resynced cleared. -/
def Engine.release (e : Engine) : Engine := { e with active := none, phase := none, resynced := false }

/-- The line becomes OFF: drain kind absent, engine DISABLED, timers stopped (R59, R61). -/
def Engine.toOff (e : Engine) : Engine :=
  { e with mode := .off, drainKind := none, state := .disabled, leadTimer := none, holdTimer := none,
           replyTimer := none, stuckTimer := none, gapWatch := false }

/-- The engine enters GUARD: driver on at mark, lead timer started (R67, R80). -/
def Engine.enterGuard (e : Engine) : Engine :=
  { e with state := .guard, leadTimer := some leadTime, stuckTimer := none }

/-- The engine leaves SETTLE (R82): GUARD when it holds a slot (R80), IDLE when it holds none on an ON line. The stuck timer
stops. -/
def Engine.leaveSettle (e : Engine) : Engine :=
  match e.active with
  | some _ => e.enterGuard
  | none => if e.mode = .on then { e with state := .idle, stuckTimer := none } else e

/-- The engine enters SETTLE on a line of the given quiet time (R82): the stuck timer starts and stuck raised is cleared. In
mode DRAINING with no active slot the line becomes OFF at that entry (R61). A line already quiet for the settle gap lets
SETTLE be left at once (R58, R82). -/
def Engine.settle (e : Engine) (quiet : Nat) : Engine :=
  let e' := { e with state := .settle, stuckTimer := some stuckLimit, stuckRaised := false }
  if e.mode = .draining ∧ e.active = none then e'.toOff
  else if e.config.settleGap ≤ quiet then e'.leaveSettle
  else e'

/-- The timers and watches of a wait stop (R79, R86). -/
def Engine.stopWaiting (e : Engine) : Engine := { e with replyTimer := none, gapWatch := false }

/-- The engine of a line enters SETTLE (R82) with the quiet time that the line has then (R5). -/
def State.settle (s : State) (l : Line) : State := s.modEngine l fun e => e.settle (s.link l).quietTime

/-- The engine's slot completes: it stops being active and completes under R35. -/
def State.completeActive (s : State) (l : Line) (n : SlotNo) (o : TransactionOutcome) : State :=
  (s.modEngine l Engine.release).complete n o

/-- The engine's slot completes and the engine enters SETTLE with no active slot. -/
def State.finishActive (s : State) (l : Line) (n : SlotNo) (o : TransactionOutcome) : State :=
  (s.completeActive l n o).settle l

/-! ### Verdicts (R79 to R81, R89, R32) -/

/-- The station record after a verdict (R89). -/
def Station.afterVerdict (x : Station) : Verdict → Station
  | .goodReply => { x with failureCount := 0, replied := true, toggle := !x.toggle }
  | .replyTooLong => { x with failureCount := 0, replied := true, toggle := !x.toggle }
  | .goodAck => { failureCount := 0, replied := true, sync := .synced, toggle := false }
  | .failed .stale => { x with failureCount := 0, replied := true, sync := .unsync }
  | .failed .busy => { x with failureCount := 0, replied := true }
  | .failed .silence => { x with failureCount := min 15 (x.failureCount + 1) }
  | .failed .garbled => { x with failureCount := min 15 (x.failureCount + 1) }
  | .failed .wrongStation => x
  | .failed .collision => x

/-- A failed attempt at the Slot Table (R32): last failure is set; with attempts left the slot rejoins its queue, at
the tail of its class after BUSY and at the head otherwise; with none left it completes. -/
def State.retry (s : State) (n : SlotNo) (f : Failure) : State :=
  let t := s.modSlot n fun x => { x with lastFailure := some f }
  if (s.slot n).attempts < (s.slot n).retryLimit + 1 then
    if f = .busy then t.joinTail n else t.joinHead n
  else t.complete n f.outcome

/-- A good RESYNC_ACK continues the attempt (R80): the slot is kept, the phase becomes REQUEST and resynced is set. -/
def Engine.resyncDone (e : Engine) : Engine := { e with phase := some .request, resynced := true }

/-- Steps 3 and 4 of R79 at the Slot Table and the engine. -/
def State.actOnVerdict (s : State) (l : Line) (n : SlotNo) (v : Verdict) : State :=
  match v with
  | .goodReply =>
    (s.modSlot n fun x => { x with replyLength := some (s.link l).stored }).finishActive l n .ok
  | .replyTooLong =>
    (s.modSlot n fun x => { x with replyLength := some (s.link l).stored }).finishActive l n .replyTooLong
  | .goodAck => (s.modEngine l Engine.resyncDone).settle l
  | .failed f => ((s.modEngine l Engine.release).retry n f).settle l

/-- A verdict reaches the exchange of the active slot (R79). With cancel pending set no verdict is reached and the slot
completes with the pending outcome (R79, R85). The Station Table takes the verdict unless the phase is BROADCAST. -/
def State.verdict (s : State) (l : Line) (v : Verdict) : State :=
  match (s.engine l).active with
  | none => s
  | some n =>
    let x := s.slot n
    let t := s.modEngine l Engine.stopWaiting
    match x.cancelPending with
    | some o => t.finishActive l n o.outcome
    | none =>
      let u := if (s.engine l).phase = some .broadcast then t
               else t.updateStation l x.station fun r => r.afterVerdict v
      u.actOnVerdict l n v

/-! ### Taking and sending (R67, R69 to R73) -/

/-- The phase of a slot taken now (R67). -/
def State.phaseFor (s : State) (x : Slot) : Phase :=
  if x.station = 0 then .broadcast
  else if (s.station x.line x.station).sync = .unsync then .resync
  else .request

/-- The take of the head of a line's pending queue (R67, R30). -/
def State.takeHead (s : State) (l : Line) : State :=
  let e := s.engine l
  if e.state = .idle ∧ e.mode = .on then
    match e.queue with
    | [] => s
    | n :: rest =>
      (s.modSlot n fun x => { x with state := .active }).setEngine l
        (Engine.enterGuard { e with queue := rest, active := some n, phase := some (s.phaseFor (s.slot n)),
                                    resynced := false })
  else s

/-- The lead timer runs out in GUARD (R69): TRANSMIT, the frame of the phase begins at character 1, and an attempt
begins unless resynced is set (R31). -/
def State.leadExpired (s : State) (l : Line) : State :=
  let e := s.engine l
  if e.state = .guard ∧ e.leadTimer ≠ none then
    match e.active, e.phase with
    | some n, some p =>
      let x := s.slot n
      let t := if e.resynced then s else s.modSlot n fun y => { y with attempts := y.attempts + 1 }
      let u := t.modEngine l fun y => { y with state := .transmit, leadTimer := none }
      let v := u.modLink l fun k =>
        { k with check := crcStart, sentToggle := (s.station l x.station).toggle }
      v.beginCharacter l x p 1
    | _, _ => s
  else s

/-- The receive input reads space (R5): the quiet time returns to zero. In GUARD (R70) the lead timer stops and the driver
goes off. Before an attempt has begun the slot is deferred to the head of its class (R32); with resynced set the engine keeps
it. In every other state a space that is no start bit, a glitch of R3, acts on the quiet time alone (log entry 29); on an
ABSENT line the input is not examined (R1). -/
def State.guardSpace (s : State) (l : Line) : State :=
  let e := s.engine l
  let heard := s.modLink l fun k => { k with quietTime := 0 }
  match e.state, e.active with
  | .guard, some n =>
    let t := heard.modEngine l fun y => { y with leadTimer := none }
    if e.resynced then t.settle l else ((t.modEngine l Engine.release).joinHead n).settle l
  | _, _ => if e.mode = .absent then s else heard

/-- The turnaround hold ends (R73, R85): a pending cancel completes the slot; otherwise a broadcast completes SENT and
any other phase enters AWAIT with the reply timer started. -/
def State.holdEnded (s : State) (l : Line) : State :=
  match (s.engine l).active with
  | none => s
  | some n =>
    let t := s.modEngine l fun y => { y with holdTimer := none }
    match (s.slot n).cancelPending with
    | some o => t.finishActive l n o.outcome
    | none =>
      if (s.engine l).phase = some .broadcast then t.finishActive l n .sent
      else t.modEngine l fun y =>
        { y with state := .await, replyTimer := some (y.config.replyTimeout * 11) }

/-- The hold timer runs out in TURNAROUND. -/
def State.holdExpired (s : State) (l : Line) : State :=
  if (s.engine l).state = .turnaround ∧ (s.engine l).holdTimer ≠ none then s.holdEnded l else s

/-- The quiet time at the end of a character of the controller's, by its read-back (R4, R5): the mark at its end, and where
the input read no space in all 11 positions, that and the quiet time before it. -/
def Link.heardBack (lk : Link) (readBack : BitVec 11) : Link :=
  let marks := marksAtEnd 11 readBack.getLsbD
  { lk with quietTime := if marks = 11 then lk.quietTime + 11 else marks }

/-- The link after the last character of a frame, complete or cut (R2, R4): the transmitter is idle and the receiver
re-arms. -/
def Link.frameOver (lk : Link) : Link := { lk.stopSending with receiver := .armed }

/-- The last check character ended with a good echo (R71): request sent is set for a REQUEST (R6), the receiver
re-arms (R4), and the engine enters TURNAROUND; a hold of 0 ends at once (R73). -/
def State.frameSent (s : State) (l : Line) (n : SlotNo) (p : Phase) : State :=
  let hold := (s.engine l).config.turnaroundHold
  let t := s.modLink l Link.frameOver
  let u := if p = .request then t.modSlot n fun x => { x with requestSent := true } else t
  let v := u.modEngine l fun y => { y with state := .turnaround, holdTimer := some hold }
  if hold = 0 then v.holdEnded l else v

/-- A character's stop bit ends and its echo result is delivered (R4, R71, R72, R85). -/
def State.characterEnded (s : State) (l : Line) (readBack : BitVec 11) : State :=
  let e := s.engine l
  match e.state, e.active, e.phase, (s.link l).transmitter with
  | .transmit, some n, some p, .sending data marker _ _ =>
    let x := s.slot n
    let t := s.modLink l fun k => k.heardBack readBack
    if readBack = wireBits data marker then
      let k := (s.link l).sendCount
      if k < frameChars x p then t.beginCharacter l x p (k + 1)
      else t.frameSent l n p
    else (t.modLink l Link.frameOver).verdict l (.failed .collision)
  | _, _, _, _ => s

/-! ### Waiting and receiving (R74 to R78) -/

/-- The reply timer runs out in AWAIT (R75): SILENCE. -/
def State.replyExpired (s : State) (l : Line) : State :=
  if (s.engine l).state = .await ∧ (s.engine l).replyTimer ≠ none then s.verdict l (.failed .silence) else s

/-- The receiver confirms a start bit (R3): it takes one only while armed, with no character of the controller's being
sent, on a line that is not ABSENT (R1). In AWAIT the reception begins (R75); in RECEIVE the gap ends (R77). -/
def State.startBit (s : State) (l : Line) : State :=
  let e := s.engine l
  let k := s.link l
  if e.mode ≠ .absent ∧ k.transmitter = .idle ∧ k.receiver = .armed then
    let heard := { k with receiver := .assembling [], quietTime := 0 }
    match e.state with
    | .await =>
      (s.setLink l { heard with check := crcStart, charCount := 0, stored := 0 }).setEngine l
        { e with state := .receive, replyTimer := none, gapWatch := false }
    | .receive => (s.setLink l heard).setEngine l { e with gapWatch := false }
    | _ => s.setLink l heard
  else s

/-- A character of the reply is taken without a verdict (R76, step 4): the count rises and the gap is watched. -/
def State.tookCharacter (s : State) (l : Line) (k : Link) : State :=
  (s.setLink l { k with charCount := k.charCount + 1 }).modEngine l fun e => { e with gapWatch := true }

/-- Take the character that passed the checks of R76 into the frame: address, control, length, payload and first
check character are taken; the second check character completes the frame (R10, R76, R78). -/
def State.takeCharacter (s : State) (l : Line) (x : Slot) (p : Phase) (b : Byte) : State :=
  let k := s.link l
  let c := k.charCount + 1
  let fed := { k with check := crcByte k.check b }
  if c = 1 then s.tookCharacter l fed
  else if c = 2 then s.tookCharacter l { fed with control := b }
  else if c = 3 then s.tookCharacter l { fed with length := b }
  else if c ≤ 3 + k.length.toNat then
    if p = .request ∧ k.stored < x.replyRoom then
      (s.putChainByte x.replyChain k.stored b).tookCharacter l { fed with stored := k.stored + 1 }
    else s.tookCharacter l fed
  else if c = 4 + k.length.toNat then s.tookCharacter l { k with checkHigh := b }
  else
    (s.setLink l { k with charCount := c }).verdict l
      (judgeFrame p (k.check == wordOf b k.checkHigh) k.control k.length.toNat x.replyRoom k.sentToggle)

/-- The verdict that a character of a reply gives at once, if any (R76, steps 1 to 3): `first` is the reply's first
character. -/
def earlyVerdict (first : Bool) (station : StationAddr) (samples : BitVec 10) : Option Verdict :=
  if !sampleSound samples then some (.failed .garbled)
  else if sampleMarker samples != first then some (.failed .garbled)
  else if first && !addressFromStation (sampleData samples) then some (.failed .garbled)
  else if first && addressStation (sampleData samples) != station.val then some (.failed .wrongStation)
  else none

/-- The receiver delivers a character (R3): it re-arms after a sound stop and waits for mark after a broken one. A
receiver that waits for mark delivers nothing, nor does one that reads back the controller's own character (R4). At the end
of the stop bit the quiet time is what the samples show, and the gap begins (R5). The engine judges the character in RECEIVE
alone (R74, R76). -/
def State.characterDelivered (s : State) (l : Line) (samples : BitVec 10) : State :=
  let e := s.engine l
  let k := s.link l
  if e.mode ≠ .absent ∧ k.transmitter = .idle ∧ k.receiver ≠ .waitMark then
    let t := s.setLink l
      { k with receiver := if sampleSound samples then .armed else .waitMark,
               quietTime := marksAtEnd 10 samples.getLsbD,
               gap := if sampleSound samples then 0 else k.gap }
    match e.state, e.active, e.phase with
    | .receive, some n, some p =>
      match earlyVerdict (k.charCount == 0) (s.slot n).station samples with
      | some v => t.verdict l v
      | none => t.takeCharacter l (s.slot n) p (sampleData samples)
    | _, _, _ => t
  else s

/-- The gap passes the gap limit (R77): GARBLED. -/
def State.gapExpired (s : State) (l : Line) : State :=
  let e := s.engine l
  if e.state = .receive ∧ e.gapWatch = true then
    (s.modLink l fun k => { k with gap := e.config.gapLimit }).verdict l (.failed .garbled)
  else s

/-! ### Settling and stuck lines (R82, R83) -/

/-- The quiet time reaches the settle gap (R5). In SETTLE this ends it (R82): GUARD when a slot is held (R80), IDLE
otherwise. In every other state nothing but the quiet time is moved, and the next entry to SETTLE finds it (log entry 29); on
an ABSENT line the input is not examined (R1). -/
def State.settled (s : State) (l : Line) : State :=
  let e := s.engine l
  let t := s.modLink l fun k => { k with quietTime := max k.quietTime e.config.settleGap }
  if e.mode = .absent then s
  else if e.state = .settle then t.modEngine l Engine.leaveSettle
  else t

/-- The stuck timer runs out in SETTLE (R83): LINE_STUCK is raised once for the entry, and the timer starts again. -/
def State.stuckExpired (s : State) (l : Line) : State :=
  let e := s.engine l
  if e.state = .settle ∧ e.stuckTimer ≠ none then
    let t := if e.stuckRaised then s else s.raiseStuck l
    t.setEngine l { e with stuckRaised := true, stuckTimer := some stuckLimit }
  else s

/-- The receive input reads mark at a receiver that waits for it (R3, R19): the receiver re-arms. -/
def State.reArm (s : State) (l : Line) : State :=
  if (s.engine l).mode ≠ .absent ∧ (s.link l).receiver = .waitMark then
    s.modLink l fun k => { k with receiver := .armed }
  else s

/-! ### Cancelling the active slot (R84 to R86) -/

/-- The engine acts on a cancel that has just reached its active slot, by its state (section 4.8). -/
def State.engineCancel (s : State) (l : Line) (n : SlotNo) (o : TransactionOutcome) : State :=
  match (s.engine l).state with
  | .guard => (s.modEngine l fun e => { e with leadTimer := none }).finishActive l n o
  | .settle =>
    (s.completeActive l n o).modEngine l fun e => if e.mode = .draining then e.toOff else e
  | .await => (s.modEngine l Engine.stopWaiting).finishActive l n o
  | .receive => (s.modEngine l Engine.stopWaiting).finishActive l n o
  | _ => s

/-- A cancel reaches the active slot of a line (R37, R39, R60): a flag already set is left as it was and has no
further effect. -/
def State.cancelActive (s : State) (l : Line) (o : PendingOutcome) : State :=
  match (s.engine l).active with
  | none => s
  | some n =>
    match (s.slot n).cancelPending with
    | some _ => s
    | none => (s.modSlot n fun x => { x with cancelPending := some o }).engineCancel l n o.outcome

end Sys2Proof.Machine
end

