-- ==== Sys2Proof/Machine/Operands.lean ====
section
/-! DEFINITION. The operand forms of the thirteen commands: opcode values, parameter counts, and the reading of the
parameter bytes with their range checks in byte order (R145, R146, R160, sections 8.3 and 11.5). -/

namespace Sys2Proof.Machine

/-- The command an opcode byte names (section 11.5). -/
def Opcode.ofByte (b : Byte) : Option Opcode :=
  if b = 0x10 then some .submit
  else if b = 0x11 then some .cancel
  else if b = 0x12 then some .purge
  else if b = 0x20 then some .lineSet
  else if b = 0x21 then some .lineOn
  else if b = 0x22 then some .lineOff
  else if b = 0x23 then some .lineReset
  else if b = 0x30 then some .pollSet
  else if b = 0x31 then some .pollRun
  else if b = 0x32 then some .pollHalt
  else if b = 0x40 then some .stationSet
  else if b = 0x50 then some .query
  else if b = 0x60 then some .queueSet
  else none

/-- The number of parameter bytes an opcode calls for (section 8.3). -/
def Opcode.paramCount : Opcode → Nat
  | .submit => 8
  | .cancel => 1
  | .purge => 1
  | .lineSet => 9
  | .lineOn => 1
  | .lineOff => 2
  | .lineReset => 1
  | .pollSet => 8
  | .pollRun => 3
  | .pollHalt => 1
  | .stationSet => 3
  | .query => 3
  | .queueSet => 4

/-- The actions of STATION_SET (R93). -/
inductive StationAction where
  | clearCount | forceUnsync | forceOffline
  deriving DecidableEq, Repr

/-- The parameters of SUBMIT (R148). -/
structure SubmitParams where
  line : Line
  station : StationAddr
  cls : SlotClass
  tag : Byte
  retryLimit : Nat
  requestLength : Nat
  replyRoom : Nat
  dma : Bool
  deriving DecidableEq, Repr

/-- A command whose parameter bytes are all in range. -/
inductive Request where
  | submit (p : SubmitParams)
  | cancel (slot : SlotNo)
  | purge (line : Line)
  | lineSet (line : Line) (config : LineConfig)
  | lineOn (line : Line)
  | lineOff (line : Line) (kind : DrainKind)
  | lineReset (line : Line)
  | pollSet (line : Line) (entry : EntryNo) (d : PollDef)
  | pollRun (line : Line) (period : Nat)
  | pollHalt (line : Line)
  | stationSet (line : Line) (station : StationAddr) (action : StationAction)
  | queryPool
  | querySlot (slot : SlotNo)
  | queryLine (line : Line)
  | queryStation (line : Line) (station : StationAddr)
  | queryChanges (line : Line)
  | queryEntry (line : Line) (entry : EntryNo)
  | queueSet (highMark lowMark trigger hostReserve : Nat)
  deriving DecidableEq, Repr

/-- The value of a parameter byte lies in a range, both ends included. -/
def within (b : Byte) (lo hi : Nat) : Bool := decide (lo ≤ b.toNat) && decide (b.toNat ≤ hi)

/-- The index of the first check that fails, each check standing with the index of its parameter byte (R145, R146). -/
def firstBad : List (Nat × Bool) → Option Nat
  | [] => none
  | (i, good) :: rest => if good then firstBad rest else some i

/-- A request read from parameter bytes whose checks are listed in byte order; the index of the first bad one otherwise
(BAD_PARAM). -/
def checked (checks : List (Nat × Bool)) (r : Request) : Except Nat Request :=
  match firstBad checks with
  | none => .ok r
  | some i => .error i

def lineOf (b : Byte) : Line := Fin.ofNat 4 b.toNat
def slotOf (b : Byte) : SlotNo := Fin.ofNat 16 b.toNat
def entryOf (b : Byte) : EntryNo := Fin.ofNat 16 b.toNat
def stationOf (b : Byte) : StationAddr := Fin.ofNat 32 b.toNat

/-- The code of a report policy (section 11.5). -/
def Policy.ofByte (b : Byte) : Policy := if b = 0 then .onChange else if b = 1 then .always else .statusOnly

/-- The code of a STATION_SET action (section 11.5). -/
def StationAction.ofByte (b : Byte) : StationAction :=
  if b = 0 then .clearCount else if b = 1 then .forceUnsync else .forceOffline

/-- The parameters of QUERY (R160): the kind decides which of a and b are used and checked. -/
def parseQuery (kind a b : Byte) : Except Nat Request :=
  if kind = 0 then .ok .queryPool
  else if kind = 1 then checked [(2, within a 0 15)] (.querySlot (slotOf a))
  else if kind = 2 then checked [(2, within a 0 3)] (.queryLine (lineOf a))
  else if kind = 3 then checked [(2, within a 0 3), (3, within b 1 31)] (.queryStation (lineOf a) (stationOf b))
  else if kind = 4 then checked [(2, within a 0 3)] (.queryChanges (lineOf a))
  else if kind = 5 then checked [(2, within a 0 3), (3, within b 0 15)] (.queryEntry (lineOf a) (entryOf b))
  else .error 1

/-- The request that the parameter bytes of an opcode ask for, or the index of the first byte out of range (R145 step 1,
section 8.3). A list of another length than the opcode calls for is never collected (R137); it reads as a bad byte 1. -/
def parseRequest (op : Opcode) (ps : List Byte) : Except Nat Request :=
  match op, ps with
  | .submit, [line, station, cls, tag, retry, len, room, flags] =>
    checked [(1, within line 0 3), (2, within station 0 31), (3, within cls 0 1), (5, within retry 0 7),
             (6, within len 0 240), (7, within room 0 240), (8, within flags 0 1)]
      (.submit { line := lineOf line, station := stationOf station, cls := if cls = 0 then .urgent else .normal,
                 tag := tag, retryLimit := retry.toNat, requestLength := len.toNat, replyRoom := room.toNat,
                 dma := flags == 1 })
  | .cancel, [slot] => checked [(1, within slot 0 15)] (.cancel (slotOf slot))
  | .purge, [line] => checked [(1, within line 0 3)] (.purge (lineOf line))
  | .lineSet, [line, divLow, divHigh, hold, timeout, gap, settle, threshold, probe] =>
    let divisor := (wordOf divLow divHigh).toNat
    checked [(1, within line 0 3), (2, decide (8 ≤ divisor)), (4, within hold 0 15), (5, within timeout 1 255),
             (6, within gap 1 255), (7, within settle 11 255), (8, within threshold 1 15), (9, within probe 1 15)]
      (.lineSet (lineOf line)
        { divisor := divisor, turnaroundHold := hold.toNat, replyTimeout := timeout.toNat, gapLimit := gap.toNat,
          settleGap := settle.toNat, offlineThreshold := threshold.toNat, probeInterval := probe.toNat })
  | .lineOn, [line] => checked [(1, within line 0 3)] (.lineOn (lineOf line))
  | .lineOff, [line, kind] =>
    checked [(1, within line 0 3), (2, within kind 0 1)] (.lineOff (lineOf line) (if kind = 0 then .drain else .abort))
  | .lineReset, [line] => checked [(1, within line 0 3)] (.lineReset (lineOf line))
  | .pollSet, [line, entry, station, item, room, policy, retry, enable] =>
    checked [(1, within line 0 3), (2, within entry 0 15), (3, within station 1 31), (5, within room 0 240),
             (6, within policy 0 2), (7, within retry 0 7), (8, within enable 0 1)]
      (.pollSet (lineOf line) (entryOf entry)
        { enabled := enable == 1, station := stationOf station, item := item, replyRoom := room.toNat,
          policy := Policy.ofByte policy, retryLimit := retry.toNat })
  | .pollRun, [line, periodLow, periodHigh] =>
    let period := (wordOf periodLow periodHigh).toNat
    checked [(1, within line 0 3), (2, decide (1 ≤ period))] (.pollRun (lineOf line) period)
  | .pollHalt, [line] => checked [(1, within line 0 3)] (.pollHalt (lineOf line))
  | .stationSet, [line, station, action] =>
    checked [(1, within line 0 3), (2, within station 1 31), (3, within action 0 2)]
      (.stationSet (lineOf line) (stationOf station) (StationAction.ofByte action))
  | .query, [kind, a, b] => parseQuery kind a b
  | .queueSet, [high, low, trigger, reserve] =>
    checked [(1, within high 1 16), (2, within low 0 15 && decide (low.toNat < high.toNat)), (3, within trigger 1 16),
             (4, within reserve 0 64)]
      (.queueSet high.toNat low.toNat trigger.toNat reserve.toNat)
  | _, _ => .error 1

end Sys2Proof.Machine
end

