-- ==== Sys2Proof/Machine/Polling.lean ====
section
/-! DEFINITION. The Poll Scheduler (chapter 6): ticks, cycle starts, the judgement of entries, and the claims for due
entries. -/

namespace Sys2Proof.Machine

/-- How a cycle start judges an entry (R108). -/
inductive Judgement where
  | disabled
  | overrun
  | notProbed
  | due
  deriving DecidableEq, Repr

/-- A cycle number is a multiple of a probe interval (R109). -/
def probeCycle (number : Word16) (interval : Nat) : Bool := number.toNat % interval == 0

/-- The judgement of an entry at a cycle start of a given number (R108): the first case that applies. -/
def State.judge (s : State) (l : Line) (number : Word16) (e : EntryNo) : Judgement :=
  let x := s.entry l e
  if !x.definition.enabled then .disabled
  else if x.live.isSome then .overrun
  else if s.derivedOf l x.definition.station = .offline ∧
          probeCycle number (s.engine l).config.probeInterval = false then .notProbed
  else .due

/-- The entries judged due, in index order (R108). -/
def State.dueEntries (s : State) (l : Line) (number : Word16) : List EntryNo :=
  (List.finRange 16).filter fun e => s.judge l number e == .due

/-- One or more entries were passed over for a live slot (R108). -/
def State.overruns (s : State) (l : Line) (number : Word16) : Bool :=
  (List.finRange 16).any fun e => s.judge l number e == .overrun

/-- A cycle starts (R107): claims left over are dropped, the cycle takes its number and the next one rises by 1, the
timer returns to 0, and unless the queue is HELD the entries are judged (R108). -/
def State.startCycle (s : State) (l : Line) : State :=
  let number := (s.sched l).cycleNumber
  let t := s.modSched l fun p => { p with due := [], cycleNumber := number + 1, cycleTimer := 0 }
  match s.queue.hold with
  | .held => t
  | .freeRunning =>
    let u := t.modSched l fun p => { p with due := s.dueEntries l number }
    if s.overruns l number then u.raiseOverrun l else u

/-- The cycle timer of a RUNNING scheduler has reached the period (R107). A scheduler that is STOPPED, or whose timer has
not reached the period, starts no cycle (log entry 3). -/
def State.cycleDue (s : State) (l : Line) : State :=
  if (s.sched l).run = .running ∧ (s.sched l).period ≤ (s.sched l).cycleTimer then s.startCycle l else s

/-- The cycle timer after an advance of the tick counter (R107); it stays at 65535 once there (log entry 7). -/
def Scheduler.ticked (p : Scheduler) : Scheduler :=
  if p.run = .running then { p with cycleTimer := min 65535 (p.cycleTimer + 1) } else p

/-- The tick counter rises (R186) and every RUNNING scheduler's cycle timer with it (R107). -/
def State.advanceTick (s : State) : State :=
  { s with tick := s.tick + 1, scheds := Table.make fun l => (s.sched l).ticked }

/-- The record that a poll creation writes (R25); the chains are lent at the creation. -/
def pollSlot (l : Line) (e : EntryNo) (d : PollDef) : Slot :=
  { Slot.cleared with state := .queued, origin := .poll, cls := .poll, line := l, tag := byteOf e.val,
                      station := d.station, retryLimit := d.retryLimit, replyRoom := d.replyRoom, requestLength := 1 }

/-- The slots that a poll creation must leave FREE (R25). -/
def pollSlotReserve : Nat := 2

/-- A poll creation is granted (R25, R47, R48): at least 2 slots stay FREE after it, the free count is at least the
blocks needed, and at least the host reserve is left. -/
def State.pollGranted (s : State) (d : PollDef) : Bool :=
  let need := blocksFor 1 + blocksFor d.replyRoom
  decide (pollSlotReserve + 1 ≤ s.freeSlots) && decide (need ≤ s.freeCount) &&
    decide (s.pool.hostReserve ≤ s.freeCount - need)

/-- A deferral (R112): the deferral count rises by 1 and stays at 255 once there. -/
def State.defer (s : State) (l : Line) : State :=
  s.modSched l fun p => { p with deferrals := min 255 (p.deferrals + 1) }

/-- A granted poll creation (R25, R111): the slot is made with the item code as payload byte 0, joins the queue of its
line at the tail of class POLL, and becomes the entry's live slot. -/
def State.createPoll (s : State) (l : Line) (e : EntryNo) (d : PollDef) (n : SlotNo) : State :=
  let t := s.create n (pollSlot l e d)
  let u := t.putChainByte (t.slot n).requestChain 0 d.item
  (u.joinTail n).modEntry l e fun x => { x with live := some n }

/-- The claim at the head of the due list is taken (R111): the index leaves the list and the entry is judged as it now
stands. No claim is taken while the scheduler is STOPPED. -/
def State.claim (s : State) (l : Line) : State :=
  match (s.sched l).run, (s.sched l).due with
  | .running, e :: rest =>
    let t := s.modSched l fun p => { p with due := rest }
    let d := (s.entry l e).definition
    if !d.enabled then t
    else
      match s.lowestFree with
      | some n => if s.pollGranted d then t.createPoll l e d n else t.defer l
      | none => t.defer l
  | _, _ => s

/-- The scheduler stops (R106): run state STOPPED and due list empty; the cycle timer stops. -/
def Scheduler.halt (p : Scheduler) : Scheduler := { p with run := .stopped, due := [] }

end Sys2Proof.Machine
end

