-- ==== Sys2Proof/Machine/Commands.lean ====
section
/-! DEFINITION. What each accepted or refused command does when it is taken (sections 8.2 and 8.3), and the resets of a
line and of the part (R62, R63, R185). QUERY stands in Queries.lean. -/

namespace Sys2Proof.Machine

/-- The line-present check (R145 step 2, R57): a command naming an ABSENT line is refused NO_LINE. -/
def State.ifPresent (s : State) (l : Line) (k : State) : State :=
  if (s.engine l).mode = .absent then s.post .noLine [] else k

/-- An accepted command that carries no info is answered DONE (R147). -/
def State.postDone (s : State) : State := s.post .done []

/-! ### SUBMIT (R148, R24) -/

/-- The reply room of a SUBMIT: 0 for a broadcast (R24). -/
def SubmitParams.room (p : SubmitParams) : Nat := if p.station = 0 then 0 else p.replyRoom

/-- The record that an accepted SUBMIT writes (R24); the chains are lent at the creation. -/
def SubmitParams.slot (p : SubmitParams) : Slot :=
  { Slot.cleared with state := .loading, origin := .host, line := p.line, station := p.station, cls := p.cls,
                      tag := p.tag, retryLimit := p.retryLimit, requestLength := p.requestLength,
                      replyRoom := p.room }

/-- The blocks that a SUBMIT needs (R23). -/
def SubmitParams.blocks (p : SubmitParams) : Nat := blocksFor p.requestLength + blocksFor p.room

/-- A granted SUBMIT (R24): with request length 0 the slot is QUEUED and ACCEPTED is posted; otherwise it is LOADING,
the port enters PAYLOAD and INTAKE is raised. -/
def State.submitGranted (s : State) (p : SubmitParams) (n : SlotNo) : State :=
  let t := s.create n p.slot
  if p.requestLength = 0 then (t.joinTail n).post .accepted [byteOf n.val]
  else
    ({ t with port := { t.port with state := .payload, loading := some n } }).modData fun d =>
      d.raiseIntake { total := p.requestLength, dma := p.dma }

/-- SUBMIT is taken (R148): line present, line ON, then a FREE slot and the blocks. -/
def State.takeSubmit (s : State) (p : SubmitParams) : State :=
  s.ifPresent p.line <|
    if (s.engine p.line).mode ≠ .on then s.post .lineOff []
    else
      match s.lowestFree with
      | none => s.post .noSlot []
      | some n => if s.freeCount < p.blocks then s.post .noRoom [] else s.submitGranted p n

/-! ### CANCEL and PURGE (R37, R40, R149, R150) -/

/-- CANCEL is taken (R149, R37): QUEUED slots complete CANCELLED, the active slot gets cancel pending, any other is
refused. -/
def State.takeCancel (s : State) (n : SlotNo) : State :=
  let l := (s.slot n).line
  match (s.slot n).state with
  | .queued =>
    ((s.modEngine l fun e => { e with queue := e.queue.erase n }).complete n .cancelled).postDone
  | .active => (if (s.engine l).active = some n then s.cancelActive l .cancelled else s).postDone
  | _ => s.post .notCancellable []

/-- PURGE is taken (R150, R40). -/
def State.takePurge (s : State) (l : Line) : State :=
  s.ifPresent l (s.completeQueue l .cancelled).postDone

/-! ### Line commands (R151 to R154) -/

/-- A station of the line stands on different sides of the OFFLINE boundary under two thresholds (R94); station 0 never
does. -/
def StationLine.crosses (t : StationLine) (old new : Nat) (a : StationAddr) : Bool :=
  match stationIndex a with
  | none => false
  | some i => crossesOffline ((t.records.look i).derived old) ((t.records.look i).derived new)

/-- The change set after a change of threshold (R94): the stations whose standing crosses the OFFLINE boundary join. -/
def StationLine.rederived (t : StationLine) (old new : Nat) : StationLine :=
  let joining := (List.finRange 32).filter fun a => t.crosses old new a
  { t with changes := joining.foldl (fun m a => m ||| stationBit a) t.changes }

/-- The seven values of a line are replaced (R65): a changed divisor acts in the link (R19), a changed threshold
re-derives the line's stations (R94). -/
def State.configure (s : State) (l : Line) (c : LineConfig) : State :=
  let old := (s.engine l).config
  let t := s.modEngine l fun e => { e with config := c }
  let u := if c.divisor = old.divisor then t else t.modLink l Link.newDivisor
  if c.offlineThreshold = old.offlineThreshold then u
  else u.setStationLine l ((u.stationLine l).rederived old.offlineThreshold c.offlineThreshold)

/-- LINE_SET is taken (R151). -/
def State.takeLineSet (s : State) (l : Line) (c : LineConfig) : State :=
  s.ifPresent l <| if (s.engine l).mode = .off then (s.configure l c).postDone else s.post .lineBusy []

/-- The engine of a line that is turned ON (R58): SETTLE, or at once IDLE on a line already quiet for the settle gap. -/
def Engine.turnOn (e : Engine) (quiet : Nat) : Engine := Engine.settle { e with mode := .on } quiet

/-- LINE_ON is taken (R152, R58). -/
def State.takeLineOn (s : State) (l : Line) : State :=
  s.ifPresent l <| if (s.engine l).mode = .off then (s.modEngine l fun e => e.turnOn (s.link l).quietTime).postDone else s.post .lineBusy []

/-- The engine starts to drain (R59). -/
def Engine.drain (e : Engine) (k : DrainKind) : Engine := { e with mode := .draining, drainKind := some k }

/-- An abort of a line whose engine holds a slot (R60): the queue completes LINE_DOWN, then the active slot is cancelled
with outcome LINE_DOWN. -/
def State.abortLine (s : State) (l : Line) : State :=
  ((s.modEngine l fun e => e.drain .abort).completeQueue l .lineDown).cancelActive l .lineDown

/-- An accepted LINE_OFF from ON (R59), with the scheduler stopped (R106): OFF at once when the engine holds no slot,
DRAINING otherwise. -/
def State.turnOff (s : State) (l : Line) (k : DrainKind) : State :=
  let t := s.modSched l Scheduler.halt
  match (s.engine l).active, k with
  | none, .drain => t.modEngine l Engine.toOff
  | none, .abort => (t.modEngine l Engine.toOff).completeQueue l .lineDown
  | some _, .drain => t.modEngine l fun e => e.drain .drain
  | some _, .abort => t.abortLine l

/-- LINE_OFF is taken (R153, the table of R59). -/
def State.takeLineOff (s : State) (l : Line) (k : DrainKind) : State :=
  match (s.engine l).mode with
  | .absent => s.post .noLine []
  | .off => s.post .lineOff []
  | .on => (s.turnOff l k).postDone
  | .draining =>
    if (s.engine l).drainKind = some .drain ∧ k = .abort then (s.abortLine l).postDone else s.post .lineBusy []

/-- A Line Engine after LINE_RESET or a soft reset (R62, R63): OFF, DISABLED, no slot, timers stopped; the configuration
is kept. An ABSENT line stays ABSENT. -/
def Engine.cleared (e : Engine) : Engine :=
  { Engine.reset true with config := e.config, mode := if e.mode = .absent then .absent else .off }

/-- A poll entry after LINE_RESET or a soft reset (R119): the definition is kept. -/
def PollEntry.cleared (e : PollEntry) : PollEntry := { e with digest := none, live := none }

/-- A Poll Scheduler after LINE_RESET (R119, R121): the definitions and the period are kept. -/
def Scheduler.lineReset (p : Scheduler) : Scheduler :=
  { Scheduler.reset with entries := Table.make fun e => (p.entries.look e).cleared, period := p.period }

/-- A Poll Scheduler after a soft reset (R119, R120): the definitions are kept, the period returns to 1000. -/
def Scheduler.softReset (p : Scheduler) : Scheduler :=
  { Scheduler.reset with entries := Table.make fun e => (p.entries.look e).cleared }

/-- The active slot of a line completes in LINE_RESET (R42): with its pending outcome if it has one, LINE_DOWN
otherwise. -/
def State.resetActive (s : State) (l : Line) : State :=
  match (s.engine l).active with
  | none => s
  | some n =>
    s.completeActive l n (((s.slot n).cancelPending.map PendingOutcome.outcome).getD .lineDown)

/-- LINE_RESET of a line (R62): the frame is cut, the slots complete, then stations, scheduler, latches and engine are
reset. -/
def State.resetLine (s : State) (l : Line) : State :=
  let t := ((s.modLink l Link.cut).completeQueue l .lineDown).resetActive l
  let u := ((t.modEngine l Engine.cleared).setStationLine l StationLine.reset).modSched l Scheduler.lineReset
  { u with events := { u.events with stuck := u.events.stuck.put l false, overrun := u.events.overrun.put l false } }

/-- LINE_RESET is taken (R154). -/
def State.takeLineReset (s : State) (l : Line) : State := s.ifPresent l (s.resetLine l).postDone

/-! ### Poll and station commands (R155 to R158) -/

/-- POLL_SET is taken (R155, R103). -/
def State.takePollSet (s : State) (l : Line) (e : EntryNo) (d : PollDef) : State :=
  s.ifPresent l <|
    if (s.entry l e).live.isSome then s.post .entryBusy []
    else (s.setEntry l e { definition := d, digest := none, live := none }).postDone

/-- A scheduler that POLL_RUN sets going (R105, steps 1 to 3). -/
def Scheduler.runWith (p : Scheduler) (period : Nat) : Scheduler :=
  { p with period := period, cycleNumber := if p.run = .stopped then 0 else p.cycleNumber, run := .running,
           cycleTimer := 0 }

/-- POLL_RUN is taken (R156, R105): the line must be ON, and a cycle starts at once. -/
def State.takePollRun (s : State) (l : Line) (period : Nat) : State :=
  s.ifPresent l <|
    if (s.engine l).mode = .on then ((s.modSched l fun p => p.runWith period).startCycle l).postDone
    else s.post .lineOff []

/-- POLL_HALT is taken (R157, R106). -/
def State.takePollHalt (s : State) (l : Line) : State := s.ifPresent l (s.modSched l Scheduler.halt).postDone

/-- The station record after a STATION_SET action (R93). -/
def StationAction.apply (x : Station) : StationAction → Station
  | .clearCount => { x with failureCount := 0 }
  | .forceUnsync => x.unsynced
  | .forceOffline => { x with failureCount := 15 }

/-- STATION_SET is taken (R158, R93). -/
def State.takeStationSet (s : State) (l : Line) (a : StationAddr) (act : StationAction) : State :=
  s.ifPresent l (s.updateStation l a fun x => StationAction.apply x act).postDone

/-! ### QUEUE_SET (R134, R159) -/

/-- QUEUE_SET is taken: the four values are set and the hold state is evaluated with the new marks. -/
def State.takeQueueSet (s : State) (high low trigger reserve : Nat) : State :=
  let q := { s.queue with highMark := high, lowMark := low, trigger := trigger }
  State.postDone { s with queue := q.evaluated, pool := { s.pool with hostReserve := reserve } }

/-! ### Soft reset (R185) -/

/-- The link of a line after a soft reset (R19): cut, unless the line is ABSENT. -/
def State.linkSoftReset (s : State) (l : Line) : Link :=
  if (s.engine l).mode = .absent then s.link l else (s.link l).cut

/-- The soft reset (R185), block by block. Line configurations, entry definitions, the QUEUE_SET values, block contents,
tick counter, latch and straps are kept. -/
def State.softReset (s : State) : State :=
  { s with
    slots := Table.fill 16 Slot.cleared,
    pool := { Pool.reset with mem := s.pool.mem, hostReserve := s.pool.hostReserve },
    engines := Table.make fun l => (s.engine l).cleared,
    links := Table.make fun l => s.linkSoftReset l,
    stations := Table.fill 4 StationLine.reset,
    scheds := Table.make fun l => (s.sched l).softReset,
    queue := { s.queue with records := [], headerPos := 0, hold := .freeRunning },
    port := CommandPort.reset,
    data := DataPort.reset,
    events := EventUnit.reset }

end Sys2Proof.Machine
end

