-- ==== Sys2Proof/Machine/Queries.lean ====
section
/-! DEFINITION. QUERY (section 8.4): the codes used in records (section 11.6), the six records, and the values that
three kinds reset as they read. -/

namespace Sys2Proof.Machine

def SlotState.code : SlotState → Byte
  | .free => 0
  | .loading => 1
  | .queued => 2
  | .active => 3
  | .done => 4

def Origin.code : Origin → Byte
  | .host => 0
  | .poll => 1

def SlotClass.code : SlotClass → Byte
  | .urgent => 0
  | .normal => 1
  | .poll => 2

def Failure.code : Failure → Byte
  | .silence => 1
  | .garbled => 2
  | .wrongStation => 3
  | .stale => 4
  | .busy => 5
  | .collision => 6

def PendingOutcome.code : PendingOutcome → Byte
  | .cancelled => 1
  | .lineDown => 2

def Sync.code : Sync → Byte
  | .unsync => 0
  | .synced => 1

def LineMode.code : LineMode → Byte
  | .absent => 0
  | .off => 1
  | .on => 2
  | .draining => 3

def DrainKind.code : DrainKind → Byte
  | .drain => 1
  | .abort => 2

def EngineState.code : EngineState → Byte
  | .disabled => 0
  | .settle => 1
  | .idle => 2
  | .guard => 3
  | .transmit => 4
  | .turnaround => 5
  | .await => 6
  | .receive => 7

def RunState.code : RunState → Byte
  | .stopped => 0
  | .running => 1

def Policy.code : Policy → Byte
  | .onChange => 0
  | .always => 1
  | .statusOnly => 2

/-- A slot number or active slot; 255 when absent or none (section 11.6). -/
def slotCode (n : Option SlotNo) : Byte := (n.map fun k => byteOf k.val).getD 255

/-- The 3-byte record of QUERY POOL (R161, R55). -/
def State.poolRecord (s : State) : List Byte :=
  [byteOf s.freeCount, byteOf s.pool.leastFree, byteOf s.pool.hostReserve]

/-- The 17-byte record of QUERY SLOT (R161). -/
def Slot.record (x : Slot) : List Byte :=
  [x.state.code, x.origin.code, x.cls.code, byteOf x.line.val, byteOf x.station.val, x.tag, byteOf x.retryLimit,
   byteOf x.attempts, byteOf x.requestLength, byteOf x.replyRoom, (x.replyLength.map byteOf).getD 255,
   (x.lastFailure.map Failure.code).getD 0, flagByte x.requestSent, (x.cancelPending.map PendingOutcome.code).getD 0,
   outcomeCode x.outcome, lowByte x.doneTime, highByte x.doneTime]

/-- The 19-byte record of QUERY LINE (R162). -/
def State.lineRecord (s : State) (l : Line) : List Byte :=
  let e := s.engine l
  let p := s.sched l
  [e.mode.code, (e.drainKind.map DrainKind.code).getD 0, e.state.code, slotCode e.active, byteOf e.queue.length] ++
    twoBytes e.config.divisor ++
    [byteOf e.config.turnaroundHold, byteOf e.config.replyTimeout, byteOf e.config.gapLimit, byteOf e.config.settleGap,
     byteOf e.config.offlineThreshold, byteOf e.config.probeInterval, p.run.code] ++
    twoBytes p.period ++ [lowByte p.cycleNumber, highByte p.cycleNumber, byteOf p.deferrals]

/-- The 5-byte record of QUERY STATION (R163, R98). -/
def State.stationRecord (s : State) (l : Line) (a : StationAddr) : List Byte :=
  let x := s.station l a
  [byteOf x.failureCount, flagByte x.replied, x.sync.code, flagByte x.toggle, (s.derivedOf l a).code]

/-- The 4-byte record of QUERY CHANGES (R163, R96), low byte first. -/
def StationLine.changeRecord (t : StationLine) : List Byte :=
  [t.changes.extractLsb' 0 8, t.changes.extractLsb' 8 8, t.changes.extractLsb' 16 8, t.changes.extractLsb' 24 8]

/-- The 10-byte record of QUERY ENTRY (R163, R117). -/
def PollEntry.record (x : PollEntry) : List Byte :=
  [byteOf x.definition.station.val, x.definition.item, byteOf x.definition.replyRoom, x.definition.policy.code,
   byteOf x.definition.retryLimit, flagByte x.definition.enabled, flagByte x.digest.isSome,
   lowByte (x.digest.getD 0), highByte (x.digest.getD 0), slotCode x.live]

/-- QUERY POOL is taken (R161, R55): the least free count is then set to the free count. -/
def State.takeQueryPool (s : State) : State :=
  State.post { s with pool := { s.pool with leastFree := s.freeCount } } .done s.poolRecord

/-- QUERY SLOT is taken (R161). -/
def State.takeQuerySlot (s : State) (n : SlotNo) : State := s.post .done (s.slot n).record

/-- QUERY LINE is taken (R162, R118): the deferral count is then set to 0. -/
def State.takeQueryLine (s : State) (l : Line) : State :=
  (s.modSched l fun p => { p with deferrals := 0 }).post .done (s.lineRecord l)

/-- QUERY STATION is taken (R163, R98). -/
def State.takeQueryStation (s : State) (l : Line) (a : StationAddr) : State := s.post .done (s.stationRecord l a)

/-- QUERY CHANGES is taken (R163, R96): the change set is then emptied. -/
def State.takeQueryChanges (s : State) (l : Line) : State :=
  (s.setStationLine l { s.stationLine l with changes := 0 }).post .done (s.stationLine l).changeRecord

/-- QUERY ENTRY is taken (R163, R117). -/
def State.takeQueryEntry (s : State) (l : Line) (e : EntryNo) : State := s.post .done (s.entry l e).record

end Sys2Proof.Machine
end

