-- ==== Sys2Proof/Machine/CommandPort.lean ====
section
/-! DEFINITION. The assembler (section 8.1): what a write to COMMAND and a read of RESPONSE do. -/

namespace Sys2Proof.Machine

/-- A command whose ranges are good goes to the owning blocks (R137 step 3). -/
def State.takeRequest (s : State) : Request → State
  | .submit p => s.takeSubmit p
  | .cancel n => s.takeCancel n
  | .purge l => s.takePurge l
  | .lineSet l c => s.takeLineSet l c
  | .lineOn l => s.takeLineOn l
  | .lineOff l k => s.takeLineOff l k
  | .lineReset l => s.takeLineReset l
  | .pollSet l e d => s.takePollSet l e d
  | .pollRun l p => s.takePollRun l p
  | .pollHalt l => s.takePollHalt l
  | .stationSet l a act => s.takeStationSet l a act
  | .queryPool => s.takeQueryPool
  | .querySlot n => s.takeQuerySlot n
  | .queryLine l => s.takeQueryLine l
  | .queryStation l a => s.takeQueryStation l a
  | .queryChanges l => s.takeQueryChanges l
  | .queryEntry l e => s.takeQueryEntry l e
  | .queueSet h lo t r => s.takeQueueSet h lo t r

/-- A command with all its parameter bytes is taken (R137, R145): a byte out of range is refused BAD_PARAM with its
index. -/
def State.takeCommand (s : State) (op : Opcode) (ps : List Byte) : State :=
  match parseRequest op ps with
  | .error i => s.post .badParam [byteOf i]
  | .ok r => s.takeRequest r

/-- An opcode byte (R136): COLLECT for one of the thirteen, BAD_OPCODE otherwise. -/
def State.takeOpcode (s : State) (b : Byte) : State :=
  match Opcode.ofByte b with
  | some op => { s with port := { s.port with state := .collect, opcode := some op, params := [] } }
  | none => s.post .badOpcode []

/-- A parameter byte (R137): it joins the bytes collected, and the last one the opcode calls for takes the command. In
COLLECT the port holds an opcode. -/
def State.takeParameter (s : State) (b : Byte) : State :=
  match s.port.opcode with
  | none => s
  | some op =>
    let ps := s.port.params ++ [b]
    let t := { s with port := { s.port with params := ps } }
    if ps.length < op.paramCount then t else t.takeCommand op ps

/-- A write to COMMAND, taken by the assembler's state (R136, R137, R138). -/
def State.writeCommand (s : State) (b : Byte) : State :=
  match s.port.state with
  | .ready => s.takeOpcode b
  | .collect => s.takeParameter b
  | .payload => s.setLost
  | .respond => s.setLost

def ResponseCode.code : ResponseCode → Byte
  | .accepted => 0x01
  | .done => 0x02
  | .aborted => 0x03
  | .badOpcode => 0x81
  | .badParam => 0x82
  | .noLine => 0x83
  | .lineOff => 0x84
  | .lineBusy => 0x85
  | .noSlot => 0x86
  | .noRoom => 0x87
  | .shortPayload => 0x88
  | .notCancellable => 0x89
  | .entryBusy => 0x8A

/-- The bytes of a response: its code, then its info bytes (R139, R147). -/
def Response.bytes (r : Response) : List Byte := r.code.code :: r.info

/-- A response byte is delivered (R139, R140): LOST is cleared by the first; after the last the response is discarded
and the assembler enters READY. -/
def CommandPort.delivered (p : CommandPort) (r : Response) : CommandPort :=
  let q := { p with lost := p.lost && p.position != 0 }
  if p.position + 1 < r.bytes.length then { q with position := p.position + 1 }
  else { q with state := .ready, response := none, position := 0 }

/-- A read of RESPONSE (R139): the byte delivered and the state after; 0 and no change outside RESPOND. -/
def State.readResponse (s : State) : Byte × State :=
  match s.port.state, s.port.response with
  | .respond, some r => (r.bytes[s.port.position]?.getD 0, { s with port := s.port.delivered r })
  | _, _ => (0, s)

end Sys2Proof.Machine
end

