-- ==== Sys2Proof/Machine/Flags.lean ====
section
/-! DEFINITION. Conditions, flags and pins: the event items and CAUSE (chapter 10), MAIN STATUS (R183), DRQ (R167), INT
(R179) and the line outputs (R1). -/

namespace Sys2Proof.Machine

/-! ### Event items (R174, R175, R177) -/

/-- An item: one kind on one line, or a chip kind with line part 0 (section 10.1). -/
structure EventItem where
  kind : EventKind
  line : Line
  deriving DecidableEq, Repr

/-- The code of a kind in a CAUSE byte (section 11.6). -/
def EventKind.code : EventKind → Nat
  | .lineStuck => 1
  | .stationChange => 2
  | .cycleOverrun => 3
  | .completion => 4
  | .dmaEnd => 5
  | .response => 6

/-- The enable of a kind in the EVENT MASK (section 11.6): bit n for the nth kind, 1 for unmasked. -/
def EventUnit.unmasked (u : EventUnit) (k : EventKind) : Bool := u.mask.getLsbD (k.code - 1)

/-- The items of a per-line kind, in line order. -/
def lineItems (k : EventKind) : List EventItem := [⟨k, 0⟩, ⟨k, 1⟩, ⟨k, 2⟩, ⟨k, 3⟩]

/-- The 15 items in the order in which CAUSE reports them (R177). -/
def allItems : List EventItem :=
  lineItems .lineStuck ++ lineItems .stationChange ++ lineItems .cycleOverrun ++
    [⟨.completion, 0⟩, ⟨.dmaEnd, 0⟩, ⟨.response, 0⟩]

/-- The COMPLETION condition (R133). -/
def CompletionQueue.completion (q : CompletionQueue) : Bool := decide (q.trigger ≤ q.records.length)

/-- An item is pending: a latched one while its flag is set (R174), a level one while its condition holds (R175). -/
def State.itemPending (s : State) (i : EventItem) : Bool :=
  match i.kind with
  | .lineStuck => s.events.stuck.look i.line
  | .stationChange => (s.stationLine i.line).changes != 0
  | .cycleOverrun => s.events.overrun.look i.line
  | .completion => s.queue.completion
  | .dmaEnd => s.events.dmaEnd
  | .response => s.port.state == .respond

/-- An item counts for CAUSE and the interrupt output: pending, and its kind unmasked (R176). -/
def State.itemCounts (s : State) (i : EventItem) : Bool := s.itemPending i && s.events.unmasked i.kind

/-- The item that a CAUSE read reports (R177). -/
def State.causeItem (s : State) : Option EventItem := allItems.find? s.itemCounts

/-- The byte of a CAUSE report (section 11.6): the line in bits 0 and 1, the kind code in bits 4 to 6. -/
def EventItem.byte (i : EventItem) : Byte := byteOf (i.kind.code * 16 + i.line.val)

/-- A reported item's latch flag is cleared, if it is latched (R178). -/
def EventUnit.report (u : EventUnit) (i : EventItem) : EventUnit :=
  match i.kind with
  | .lineStuck => { u with stuck := u.stuck.put i.line false }
  | .cycleOverrun => { u with overrun := u.overrun.put i.line false }
  | .dmaEnd => { u with dmaEnd := false }
  | .stationChange => u
  | .completion => u
  | .response => u

/-- A read of CAUSE (R177, R178): the byte returned and the state after; 0 when no item qualifies. -/
def State.readCause (s : State) : Byte × State :=
  match s.causeItem with
  | none => (0, s)
  | some i => (i.byte, { s with events := s.events.report i })

/-- A pending item has its kind unmasked (R179, the EVENT flag). -/
def State.eventFlag (s : State) : Bool := allItems.any s.itemCounts

/-- A write to EVENT MASK (R176); bits 6 and 7 are ignored. -/
def State.writeMask (s : State) (b : Byte) : State :=
  { s with events := { s.events with mask := b.extractLsb' 0 6 } }

/-- The byte that a read of EVENT MASK returns (R176); bits 6 and 7 read 0. -/
def State.maskByte (s : State) : Byte := s.events.mask.zeroExtend 8

/-! ### MAIN STATUS (R183) -/

/-- CMD_READY (R141). -/
def State.cmdReady (s : State) : Bool := s.port.state == .ready || s.port.state == .collect

/-- RESP_VALID (R141). -/
def State.respValid (s : State) : Bool := s.port.state == .respond

/-- PAYLOAD_AVAIL (R166). -/
def State.payloadAvail (s : State) : Bool := s.data.owner == .outflow

/-- INTAKE_WANTS (R166). -/
def State.intakeWants (s : State) : Bool := s.data.owner == .intake

/-- One bit at a place of a byte. -/
def bitAt (n : Nat) (b : Bool) : Byte := if b then 1#8 <<< n else 0

/-- The byte that a read of MAIN STATUS returns (R183). -/
def State.mainStatus (s : State) : Byte :=
  bitAt 0 s.cmdReady ||| bitAt 1 s.respValid ||| bitAt 2 s.headerAvail ||| bitAt 3 s.payloadAvail |||
    bitAt 4 s.intakeWants ||| bitAt 5 s.port.lost ||| bitAt 6 s.eventFlag ||| bitAt 7 s.events.busEnable

/-! ### Pins -/

/-- The owner is set up for DMA (R167). -/
def DataPort.dmaReady (d : DataPort) : Bool :=
  match d.owner with
  | .none => false
  | .intake => (d.intake.map IntakeRequest.dma).getD false
  | .outflow => d.resultDma && !d.halted

/-- DRQ is asserted, behind the BUS_ENABLE gate (R167). -/
def DataPort.wantsDma (d : DataPort) : Bool := d.dmaReady && decide (d.moved < d.total)

/-- The driver of a line is on only in GUARD, TRANSMIT and TURNAROUND (R1). -/
def Engine.drives (e : Engine) : Bool := e.state == .guard || e.state == .transmit || e.state == .turnaround

/-- The level of a line's transmit output: mark unless a character is being sent, whose position gives it (R1, R2). -/
def Link.txLevel (k : Link) : Bool :=
  match k.transmitter with
  | .idle => true
  | .sending data marker position _ => (wireBits data marker).getLsbD (position - 1)

/-- The output pins of a state (R1, R167, R179, R180; R185 while the reset input is active). -/
def State.drivenPins (s : State) : Pins :=
  if s.inReset then Pins.reset
  else
    { int := if s.events.busEnable then some s.eventFlag else none,
      drq := if s.events.busEnable then some s.data.wantsDma else none,
      tx := Table.make fun l => (s.link l).txLevel,
      de := Table.make fun l => (s.engine l).drives }

/-- The outputs are evaluated at the end of a happening (R167, R179). -/
def State.drive (s : State) : State := { s with pins := s.drivenPins }

end Sys2Proof.Machine
end

