-- ==== Sys2Proof/Machine/Window.lean ====
section
/-! DEFINITION. The register window (chapter 11): the eight locations, the CONTROL actions, the tick counter latch, and
what an access does while the reset input is active (R185). -/

namespace Sys2Proof.Machine

open Host (Outcome)

/-- A read of TICK LOW (R186): the low byte, and the high byte goes to the latch. -/
def State.readTickLow (s : State) : Byte × State := (lowByte s.tick, { s with tickLatch := highByte s.tick })

/-! ### The write to CONTROL (R183, R184) -/

/-- A write to CONTROL (R183, R184): each action written 1 and the two state values, as separate happenings, here in the
order of the bits. How far the orders agree, `Obligations.ControlActionsCommute` says (log entry 14). -/
def State.writeControl (s : State) (b : Byte) : State :=
  let t := if b.getLsbD 0 then s.softReset else s
  let u := if b.getLsbD 1 then t.abort else t
  let v := if b.getLsbD 2 then u.discard else u
  (v.writeBusEnable b).writeResultDma b

/-- The commands of the table that a write to CONTROL hands out (R184). -/
def controlCommands (b : Byte) : List Instr :=
  (if b.getLsbD 0 then [.softReset] else []) ++ (if b.getLsbD 1 then [.abortCmd] else []) ++
    (if b.getLsbD 2 then [.discardHead] else []) ++ [.busEnable b, .resultDma b]

/-! ### The locations -/

/-- A write at one of the eight offsets (R182, the table of section 11.1); ignored while the reset input is active
(R185). -/
def State.writeAt (s : State) (offset : Fin 8) (b : Byte) : State :=
  if s.inReset then s else
  match offset with
  | 0 => s.writeCommand b
  | 1 => s.writeControl b
  | 3 => s.dataIn b false false
  | 5 => s.writeMask b
  | _ => s

/-- A read at one of the eight offsets (R182): the byte returned and the state after; 0 and no change while the reset
input is active (R185). MAIN STATUS, EVENT MASK and TICK HIGH change nothing, and the table has no row for them (log entry
21). -/
def State.readAt (s : State) (offset : Fin 8) : Byte × State :=
  if s.inReset then (0, s) else
  match offset with
  | 0 => s.readResponse
  | 1 => (s.mainStatus, s)
  | 2 => s.readResult
  | 3 => s.dataOut false false
  | 4 => s.readCause
  | 5 => (s.maskByte, s)
  | 6 => s.readTickLow
  | 7 => (s.tickLatch, s)

/-- A happening that is not a read: ignored while the reset input is active (R185), otherwise taken, with the outputs
evaluated after it. -/
def happening (f : State → State) (s : State) : Outcome State Fault Refusal :=
  if s.inReset then .next s else .next (f s).drive

/-- A read: 0 while the reset input is active (R185), otherwise the byte delivered drives the data bus. -/
def readHappening (f : State → Byte × State) (s : State) : Outcome State Fault Refusal :=
  if s.inReset then .next { s with dataBus := 0 }
  else .next (State.drive { (f s).2 with dataBus := (f s).1 })

/-- The reset input becomes active (R185): the outputs go to their levels in reset. The blocks take their values at the
release. -/
def State.enterReset (s : State) : State := State.drive { s with inReset := true }

/-- The release of the reset input (R185): every block takes its hardware-reset values and the straps are sampled. The
commands that wait are not the part's. -/
def State.releaseReset (s : State) (straps : BitVec 4) : State :=
  { State.resetWith straps with pending := s.pending }

end Sys2Proof.Machine
end

