-- ==== Sys2Proof/Machine/Accesses.lean ====
section
/-! DEFINITION. The meanings of the reads, the writes outside COMMAND and CONTROL, and the DMA acknowledges. -/

namespace Sys2Proof.Machine

open Host (Outcome)

/-- RESPONSE_READ (R139). -/
def execResponseRead (s : State) : Outcome State Fault Refusal := readHappening State.readResponse s

/-- RESULT_READ (R126). -/
def execResultRead (s : State) : Outcome State Fault Refusal := readHappening State.readResult s

/-- DATA_WRITE (R166). -/
def execDataWrite (b : Byte) (s : State) : Outcome State Fault Refusal := happening (fun t => t.dataIn b false false) s

/-- DATA_READ (R166). -/
def execDataRead (s : State) : Outcome State Fault Refusal := readHappening (fun t => t.dataOut false false) s

/-- DMA_WRITE_ACK (R168, R170). -/
def execDmaWriteAck (b : Byte) (tc : Bool) (s : State) : Outcome State Fault Refusal :=
  happening (fun t => t.dataIn b true tc) s

/-- DMA_READ_ACK (R168, R171). -/
def execDmaReadAck (tc : Bool) (s : State) : Outcome State Fault Refusal :=
  readHappening (fun t => t.dataOut true tc) s

/-- CAUSE_READ (R177). -/
def execCauseRead (s : State) : Outcome State Fault Refusal := readHappening State.readCause s

/-- EVENT_MASK_WRITE (R176). -/
def execEventMaskWrite (b : Byte) (s : State) : Outcome State Fault Refusal := happening (fun t => t.writeMask b) s

/-- TICK_LOW_READ (R186). -/
def execTickLowRead (s : State) : Outcome State Fault Refusal := readHappening State.readTickLow s

/-- IGNORED_WRITE (R182): a write at an ignored location changes nothing. At any other offset the write is the access
that the table of section 11.1 names. -/
def execIgnoredWrite (offset : Fin 8) (b : Byte) (s : State) : Outcome State Fault Refusal :=
  if ignoredOffset offset then .next s else happening (fun t => t.writeAt offset b) s

end Sys2Proof.Machine
end

