-- ==== Sys2Proof/Machine/CommandRows.lean ====
section
/-! DEFINITION. The meanings of the rows that are writes to COMMAND. The row names the happening that the write turns out
to be; which one it is, the assembler's state, opcode and collected bytes decide (R136, R137, R138), so each meaning is
a write of its byte, and on a port in another state it is what that port makes of the byte (log entry 2). -/

namespace Sys2Proof.Machine

open Host (Outcome)

/-- OPCODE_BYTE (R136: in READY). -/
def execOpcodeByte (b : Byte) (s : State) : Outcome State Fault Refusal := happening (fun t => t.writeCommand b) s

/-- PARAMETER_BYTE (R137: in COLLECT, before the last parameter byte). -/
def execParameterByte (b : Byte) (s : State) : Outcome State Fault Refusal := happening (fun t => t.writeCommand b) s

/-- COMMAND_WRITE_DROPPED (R138: in PAYLOAD or RESPOND). -/
def execCommandWriteDropped (b : Byte) (s : State) : Outcome State Fault Refusal := happening (fun t => t.writeCommand b) s

/-- SUBMIT (R148: the eighth parameter byte; `State.takeSubmit`). -/
def execSubmit (b : Byte) (s : State) : Outcome State Fault Refusal := happening (fun t => t.writeCommand b) s

/-- CANCEL (R149: the one parameter byte; `State.takeCancel`). -/
def execCancel (b : Byte) (s : State) : Outcome State Fault Refusal := happening (fun t => t.writeCommand b) s

/-- PURGE (R150: the one parameter byte; `State.takePurge`). -/
def execPurge (b : Byte) (s : State) : Outcome State Fault Refusal := happening (fun t => t.writeCommand b) s

/-- LINE_SET (R151: the ninth parameter byte; `State.takeLineSet`). -/
def execLineSet (b : Byte) (s : State) : Outcome State Fault Refusal := happening (fun t => t.writeCommand b) s

/-- LINE_ON (R152: the one parameter byte; `State.takeLineOn`). -/
def execLineOn (b : Byte) (s : State) : Outcome State Fault Refusal := happening (fun t => t.writeCommand b) s

/-- LINE_OFF (R153: the second parameter byte; `State.takeLineOff`). -/
def execLineOff (b : Byte) (s : State) : Outcome State Fault Refusal := happening (fun t => t.writeCommand b) s

/-- LINE_RESET (R154: the one parameter byte; `State.takeLineReset`). -/
def execLineReset (b : Byte) (s : State) : Outcome State Fault Refusal := happening (fun t => t.writeCommand b) s

/-- POLL_SET (R155: the eighth parameter byte; `State.takePollSet`). -/
def execPollSet (b : Byte) (s : State) : Outcome State Fault Refusal := happening (fun t => t.writeCommand b) s

/-- POLL_RUN (R156: the third parameter byte; `State.takePollRun`). -/
def execPollRun (b : Byte) (s : State) : Outcome State Fault Refusal := happening (fun t => t.writeCommand b) s

/-- POLL_HALT (R157: the one parameter byte; `State.takePollHalt`). -/
def execPollHalt (b : Byte) (s : State) : Outcome State Fault Refusal := happening (fun t => t.writeCommand b) s

/-- STATION_SET (R158: the third parameter byte; `State.takeStationSet`). -/
def execStationSet (b : Byte) (s : State) : Outcome State Fault Refusal := happening (fun t => t.writeCommand b) s

/-- QUERY_POOL (R161: the third parameter byte of QUERY, kind POOL; `State.takeQueryPool`). -/
def execQueryPool (b : Byte) (s : State) : Outcome State Fault Refusal := happening (fun t => t.writeCommand b) s

/-- QUERY_SLOT (R161: the third parameter byte of QUERY, kind SLOT; `State.takeQuerySlot`). -/
def execQuerySlot (b : Byte) (s : State) : Outcome State Fault Refusal := happening (fun t => t.writeCommand b) s

/-- QUERY_LINE (R162: the third parameter byte of QUERY, kind LINE; `State.takeQueryLine`). -/
def execQueryLine (b : Byte) (s : State) : Outcome State Fault Refusal := happening (fun t => t.writeCommand b) s

/-- QUERY_STATION (R98: the third parameter byte of QUERY, kind STATION; `State.takeQueryStation`). -/
def execQueryStation (b : Byte) (s : State) : Outcome State Fault Refusal := happening (fun t => t.writeCommand b) s

/-- QUERY_CHANGES (R96: the third parameter byte of QUERY, kind CHANGES; `State.takeQueryChanges`). -/
def execQueryChanges (b : Byte) (s : State) : Outcome State Fault Refusal := happening (fun t => t.writeCommand b) s

/-- QUERY_ENTRY (R117: the third parameter byte of QUERY, kind ENTRY; `State.takeQueryEntry`). -/
def execQueryEntry (b : Byte) (s : State) : Outcome State Fault Refusal := happening (fun t => t.writeCommand b) s

/-- QUEUE_SET (R134: the fourth parameter byte; `State.takeQueueSet`). -/
def execQueueSet (b : Byte) (s : State) : Outcome State Fault Refusal := happening (fun t => t.writeCommand b) s

end Sys2Proof.Machine
end

