-- ==== Sys2Proof/Machine/Control.lean ====
section
/-! DEFINITION. The meanings of the other happenings of a write to CONTROL (R183, R184). -/

namespace Sys2Proof.Machine

open Host (Outcome)

/-- ABORT_CMD (R142). -/
def execAbortCmd (s : State) : Outcome State Fault Refusal := happening State.abort s

/-- DISCARD_HEAD (R130). -/
def execDiscardHead (s : State) : Outcome State Fault Refusal := happening State.discard s

/-- BUS_ENABLE (R180). -/
def execBusEnable (written : Byte) (s : State) : Outcome State Fault Refusal :=
  happening (fun t => t.writeBusEnable written) s

/-- RESULT_DMA (R167). -/
def execResultDma (written : Byte) (s : State) : Outcome State Fault Refusal :=
  happening (fun t => t.writeResultDma written) s

end Sys2Proof.Machine
end

