-- ==== Sys2Proof/Machine/LineEvents.lean ====
section
/-! DEFINITION. The meanings of the happenings of a line: takes, timers, characters and quiet. -/

namespace Sys2Proof.Machine

open Host (Outcome)

/-- TAKE (R67). -/
def execTake (line : Line) (s : State) : Outcome State Fault Refusal :=
  happening (fun t => t.takeHead line) s

/-- LEAD_TIMER_EXPIRY (R69). -/
def execLeadTimerExpiry (line : Line) (s : State) : Outcome State Fault Refusal :=
  happening (fun t => t.leadExpired line) s

/-- GUARD_SPACE_HEARD (R70). -/
def execGuardSpaceHeard (line : Line) (s : State) : Outcome State Fault Refusal :=
  happening (fun t => t.guardSpace line) s

/-- CHARACTER_SENT (R71, R72, R85). -/
def execCharacterSent (line : Line) (readBack : BitVec 11) (s : State) : Outcome State Fault Refusal :=
  happening (fun t => t.characterEnded line readBack) s

/-- HOLD_TIMER_EXPIRY (R73, R85). -/
def execHoldTimerExpiry (line : Line) (s : State) : Outcome State Fault Refusal :=
  happening (fun t => t.holdExpired line) s

/-- REPLY_TIMEOUT (R75). -/
def execReplyTimeout (line : Line) (s : State) : Outcome State Fault Refusal :=
  happening (fun t => t.replyExpired line) s

/-- START_BIT_TAKEN (R75, R77, R3). -/
def execStartBitTaken (line : Line) (s : State) : Outcome State Fault Refusal :=
  happening (fun t => t.startBit line) s

/-- CHARACTER_RECEIVED (R76, R78, R3). -/
def execCharacterReceived (line : Line) (samples : BitVec 10) (s : State) : Outcome State Fault Refusal :=
  happening (fun t => t.characterDelivered line samples) s

/-- GAP_LIMIT_EXPIRY (R77). -/
def execGapLimitExpiry (line : Line) (s : State) : Outcome State Fault Refusal :=
  happening (fun t => t.gapExpired line) s

/-- SETTLE_QUIET (R82, R80). -/
def execSettleQuiet (line : Line) (s : State) : Outcome State Fault Refusal :=
  happening (fun t => t.settled line) s

/-- STUCK_TIMER_EXPIRY (R83). -/
def execStuckTimerExpiry (line : Line) (s : State) : Outcome State Fault Refusal :=
  happening (fun t => t.stuckExpired line) s

/-- RECEIVER_RE_ARM (R3, R19). -/
def execReceiverReArm (line : Line) (s : State) : Outcome State Fault Refusal :=
  happening (fun t => t.reArm line) s

end Sys2Proof.Machine
end

