-- ==== Sys2Proof/Machine/PollEvents.lean ====
section
/-! DEFINITION. The meanings of the tick and of the scheduler's happenings. -/

namespace Sys2Proof.Machine

open Host (Outcome)

/-- TICK (R186, R107). -/
def execTick (s : State) : Outcome State Fault Refusal := happening State.advanceTick s

/-- CYCLE_START (R107). -/
def execCycleStart (line : Line) (s : State) : Outcome State Fault Refusal := happening (fun t => t.cycleDue line) s

/-- POLL_CLAIM (R111). -/
def execPollClaim (line : Line) (s : State) : Outcome State Fault Refusal := happening (fun t => t.claim line) s

end Sys2Proof.Machine
end

