-- ==== Sys2Proof/Machine/Resets.lean ====
section
/-! DEFINITION. The meanings of the reset rows: HARDWARE_RESET, SOFT_RESET, RESET_INPUT_ACTIVE (R185). -/

namespace Sys2Proof.Machine

open Host (Outcome)

/-- HARDWARE_RESET (R185): release of the reset input with the straps at the given levels. -/
def execHardwareReset (straps : BitVec 4) (s : State) : Outcome State Fault Refusal := .next (s.releaseReset straps)

/-- SOFT_RESET (R185): bit 0 of a write to CONTROL. -/
def execSoftReset (s : State) : Outcome State Fault Refusal := happening State.softReset s

/-- RESET_INPUT_ACTIVE (R185). -/
def execResetInputActive (s : State) : Outcome State Fault Refusal := .next s.enterReset

end Sys2Proof.Machine
end

