-- ==== Sys2Proof/Machine/Dispatch.lean ====
section
/-! DEFINITION. One arm for each command: a direct call of its meaning. -/

namespace Sys2Proof.Machine

open Host (Outcome)

def exec (i : Instr) (s : State) : Host.Outcome State Fault Refusal :=
  match i with
  | .hardwareReset straps => Sys2Proof.Machine.execHardwareReset straps s
  | .softReset => Sys2Proof.Machine.execSoftReset s
  | .abortCmd => Sys2Proof.Machine.execAbortCmd s
  | .discardHead => Sys2Proof.Machine.execDiscardHead s
  | .busEnable written => Sys2Proof.Machine.execBusEnable written s
  | .resultDma written => Sys2Proof.Machine.execResultDma written s
  | .opcodeByte b => Sys2Proof.Machine.execOpcodeByte b s
  | .parameterByte b => Sys2Proof.Machine.execParameterByte b s
  | .commandWriteDropped b => Sys2Proof.Machine.execCommandWriteDropped b s
  | .submit last => Sys2Proof.Machine.execSubmit last s
  | .cancel last => Sys2Proof.Machine.execCancel last s
  | .purge last => Sys2Proof.Machine.execPurge last s
  | .lineSet last => Sys2Proof.Machine.execLineSet last s
  | .lineOn last => Sys2Proof.Machine.execLineOn last s
  | .lineOff last => Sys2Proof.Machine.execLineOff last s
  | .lineReset last => Sys2Proof.Machine.execLineReset last s
  | .pollSet last => Sys2Proof.Machine.execPollSet last s
  | .pollRun last => Sys2Proof.Machine.execPollRun last s
  | .pollHalt last => Sys2Proof.Machine.execPollHalt last s
  | .stationSet last => Sys2Proof.Machine.execStationSet last s
  | .queryPool last => Sys2Proof.Machine.execQueryPool last s
  | .querySlot last => Sys2Proof.Machine.execQuerySlot last s
  | .queryLine last => Sys2Proof.Machine.execQueryLine last s
  | .queryStation last => Sys2Proof.Machine.execQueryStation last s
  | .queryChanges last => Sys2Proof.Machine.execQueryChanges last s
  | .queryEntry last => Sys2Proof.Machine.execQueryEntry last s
  | .queueSet last => Sys2Proof.Machine.execQueueSet last s
  | .responseRead => Sys2Proof.Machine.execResponseRead s
  | .resultRead => Sys2Proof.Machine.execResultRead s
  | .dataWrite b => Sys2Proof.Machine.execDataWrite b s
  | .dataRead => Sys2Proof.Machine.execDataRead s
  | .dmaWriteAck b tc => Sys2Proof.Machine.execDmaWriteAck b tc s
  | .dmaReadAck tc => Sys2Proof.Machine.execDmaReadAck tc s
  | .causeRead => Sys2Proof.Machine.execCauseRead s
  | .eventMaskWrite b => Sys2Proof.Machine.execEventMaskWrite b s
  | .tickLowRead => Sys2Proof.Machine.execTickLowRead s
  | .ignoredWrite offset b => Sys2Proof.Machine.execIgnoredWrite offset b s
  | .tick => Sys2Proof.Machine.execTick s
  | .cycleStart line => Sys2Proof.Machine.execCycleStart line s
  | .pollClaim line => Sys2Proof.Machine.execPollClaim line s
  | .take line => Sys2Proof.Machine.execTake line s
  | .leadTimerExpiry line => Sys2Proof.Machine.execLeadTimerExpiry line s
  | .guardSpaceHeard line => Sys2Proof.Machine.execGuardSpaceHeard line s
  | .characterSent line readBack => Sys2Proof.Machine.execCharacterSent line readBack s
  | .holdTimerExpiry line => Sys2Proof.Machine.execHoldTimerExpiry line s
  | .replyTimeout line => Sys2Proof.Machine.execReplyTimeout line s
  | .startBitTaken line => Sys2Proof.Machine.execStartBitTaken line s
  | .characterReceived line samples => Sys2Proof.Machine.execCharacterReceived line samples s
  | .gapLimitExpiry line => Sys2Proof.Machine.execGapLimitExpiry line s
  | .settleQuiet line => Sys2Proof.Machine.execSettleQuiet line s
  | .stuckTimerExpiry line => Sys2Proof.Machine.execStuckTimerExpiry line s
  | .resetInputActive => Sys2Proof.Machine.execResetInputActive s
  | .receiverReArm line => Sys2Proof.Machine.execReceiverReArm line s

end Sys2Proof.Machine
end

