-- ==== Sys2Proof/Safety.lean ====
section
/-! DEFINITION. What counts as a safe run of the 430: the states that its rules allow, as decidable predicates over
State. Every predicate is one that the rules it cites promise of every happening. The last section names the states in
which a byte of a command is due. -/

namespace Sys2Proof.Machine

/-! ### Slots and blocks (R20, R22, R46, R66, R123) -/

/-- A FREE slot holds the cleared record (R20). -/
abbrev FreeIsCleared (s : State) : Prop := ∀ n : SlotNo, (s.slot n).state = .free → s.slot n = Slot.cleared

/-- A pending queue holds the QUEUED slots of its line, each once, and no other, in class order: URGENT, NORMAL, POLL (R22,
R66). -/
abbrev QueuedPlaces (s : State) : Prop :=
  (∀ l : Line, ∀ n ∈ (s.engine l).queue, (s.slot n).state = .queued ∧ (s.slot n).line = l) ∧
  (∀ n : SlotNo, (s.slot n).state = .queued → n ∈ (s.engine (s.slot n).line).queue) ∧
  (∀ l : Line, (s.engine l).queue.Nodup) ∧
  ∀ l : Line, (s.engine l).queue.Pairwise fun a b => (s.slot a).cls.rank ≤ (s.slot b).cls.rank

/-- An ACTIVE slot is the active slot of the engine of its line, and an active slot is ACTIVE (R22, R68). -/
abbrev ActivePlaces (s : State) : Prop :=
  (∀ l : Line, ∀ n : SlotNo, (s.engine l).active = some n → (s.slot n).state = .active ∧ (s.slot n).line = l) ∧
  (∀ n : SlotNo, (s.slot n).state = .active → (s.engine (s.slot n).line).active = some n) ∧
  ∀ l : Line, (s.engine l).state = .idle → (s.engine l).active = none

/-- The Completion Queue holds the DONE slots, each once, and no other (R22, R123). -/
abbrev DonePlaces (s : State) : Prop :=
  (∀ r ∈ s.queue.records, (s.slot r.slot).state = .done) ∧
  (∀ n : SlotNo, (s.slot n).state = .done → n ∈ s.queue.records.map Record.slot) ∧
  (s.queue.records.map Record.slot).Nodup

/-- The LOADING slot is the one of the Command Port's assembly, and the port holds one in PAYLOAD alone (R22). -/
abbrev LoadingPlaces (s : State) : Prop :=
  (∀ n : SlotNo, (s.slot n).state = .loading ↔ s.port.loading = some n) ∧
  (s.port.loading ≠ none → s.port.state = .payload)

/-- Each of the 128 blocks stands in the free list or in one chain of one slot, once (R46). -/
abbrev BlocksPlaces (s : State) : Prop :=
  (s.pool.free ++ (List.finRange 16).flatMap fun n => (s.slot n).requestChain ++ (s.slot n).replyChain).Perm
    (List.finRange 128)

/-- Every slot and every block stands in one place, and the place matches its state. -/
abbrev Places (s : State) : Prop :=
  FreeIsCleared s ∧ QueuedPlaces s ∧ ActivePlaces s ∧ DonePlaces s ∧ LoadingPlaces s ∧ BlocksPlaces s

/-! ### Line Engines (section 4.1, R68) and their schedulers (section 6.2) -/

/-- The engine state fits the line mode (the table of section 4.1), and the drain kind is present in DRAINING alone. -/
abbrev ModeFits (e : Engine) : Prop :=
  ((e.mode = .absent ∨ e.mode = .off) ↔ e.state = .disabled) ∧
  (e.mode = .draining → e.state ≠ .idle ∧ e.active.isSome = true) ∧
  (e.drainKind.isSome = true ↔ e.mode = .draining)

/-- The active slot, the phase and resynced fit the engine state (R68, R80). -/
abbrev HoldFits (e : Engine) : Prop :=
  (e.active.isSome = e.phase.isSome) ∧
  (e.resynced = true → e.phase = some .request) ∧
  (e.state = .disabled ∨ e.state = .idle → e.active = none) ∧
  (e.state = .settle → e.active.isSome = true → e.resynced = true) ∧
  (e.state = .guard ∨ e.state = .transmit ∨ e.state = .turnaround ∨ e.state = .await ∨ e.state = .receive →
    e.active.isSome = true) ∧
  (e.state = .await ∨ e.state = .receive → e.phase ≠ some .broadcast)

/-- Each timer runs in its own state alone: lead in GUARD, hold in TURNAROUND, reply in AWAIT, stuck in SETTLE, the gap
watch in RECEIVE (chapter 4). -/
abbrev TimersFit (e : Engine) : Prop :=
  (e.leadTimer.isSome = true ↔ e.state = .guard) ∧
  (e.holdTimer.isSome = true ↔ e.state = .turnaround) ∧
  (e.replyTimer.isSome = true ↔ e.state = .await) ∧
  (e.stuckTimer.isSome = true ↔ e.state = .settle) ∧
  (e.gapWatch = true → e.state = .receive)

/-- An engine in a state that chapter 4 allows. -/
abbrev EngineFits (e : Engine) : Prop := ModeFits e ∧ HoldFits e ∧ TimersFit e

/-- Every Line Engine is in a state that chapter 4 allows. -/
abbrev EnginesFit (s : State) : Prop := ∀ l : Line, EngineFits (s.engine l)

/-- A line is ABSENT exactly when its strap was sampled low (R57). -/
abbrev StrapsRule (s : State) : Prop := ∀ l : Line, (s.engine l).mode = .absent ↔ s.straps.getLsb l = false

/-- A scheduler runs only while its line is ON, and holds claims only while it runs (sections 6.2 and 6.3). -/
abbrev SchedulersFit (s : State) : Prop :=
  ∀ l : Line, ((s.sched l).run = .running → (s.engine l).mode = .on) ∧
    ((s.sched l).run = .stopped → (s.sched l).due = [])

/-! ### Ranges (R87, R95, R134, section 6.2) -/

/-- A line configuration holds values in the ranges of R64. -/
abbrev ConfigInRange (c : LineConfig) : Prop :=
  (8 ≤ c.divisor ∧ c.divisor ≤ 65535) ∧ c.turnaroundHold ≤ 15 ∧ (1 ≤ c.replyTimeout ∧ c.replyTimeout ≤ 255) ∧
  (1 ≤ c.gapLimit ∧ c.gapLimit ≤ 255) ∧ (11 ≤ c.settleGap ∧ c.settleGap ≤ 255) ∧
  (1 ≤ c.offlineThreshold ∧ c.offlineThreshold ≤ 15) ∧ (1 ≤ c.probeInterval ∧ c.probeInterval ≤ 15)

/-- The values that the host sets and the counters that saturate stay in their ranges: line configurations (R64),
failure counts (R87), bit 0 of a change map (R96), periods and deferral counts (section 6.2), watermarks and trigger
(section 7.1), host reserve (R48). -/
abbrev ValuesInRange (s : State) : Prop :=
  (∀ l : Line, ConfigInRange (s.engine l).config) ∧
  (∀ l : Line, ∀ i : Fin 31, ((s.stationLine l).records.look i).failureCount ≤ 15) ∧
  (∀ l : Line, (s.stationLine l).changes.getLsbD 0 = false) ∧
  (∀ l : Line, 1 ≤ (s.sched l).period ∧ (s.sched l).period ≤ 65535 ∧ (s.sched l).cycleTimer ≤ 65535 ∧
    (s.sched l).deferrals ≤ 255) ∧
  (1 ≤ s.queue.highMark ∧ s.queue.highMark ≤ 16 ∧ s.queue.lowMark < s.queue.highMark ∧ 1 ≤ s.queue.trigger ∧
    s.queue.trigger ≤ 16) ∧
  s.pool.hostReserve ≤ 64

/-! ### Outputs (R1, R167, R179, R180, R185) -/

/-- Something unmasked is pending (R176, R179), item by item: bit n of the mask unmasks the nth kind of section 10.1. -/
abbrev SomethingUnmasked (s : State) : Prop :=
  (∃ l : Line,
    (s.events.mask.getLsbD 0 = true ∧ s.events.stuck.look l = true) ∨
    (s.events.mask.getLsbD 1 = true ∧ (s.stationLine l).changes ≠ 0) ∨
    (s.events.mask.getLsbD 2 = true ∧ s.events.overrun.look l = true)) ∨
  (s.events.mask.getLsbD 3 = true ∧ s.queue.trigger ≤ s.queue.records.length) ∨
  (s.events.mask.getLsbD 4 = true ∧ s.events.dmaEnd = true) ∨
  (s.events.mask.getLsbD 5 = true ∧ s.port.state = .respond)

/-- A request for a DMA byte stands behind the gate (R167). -/
abbrev DmaByteWanted (d : DataPort) : Prop :=
  (d.owner = .intake ∧ d.intake.any (fun r => r.dma && decide (d.moved < r.total)) = true) ∨
  (d.owner = .outflow ∧ d.resultDma = true ∧ d.halted = false ∧
    d.outflow.any (fun r => decide (d.moved < r.total)) = true)

/-- The outputs stand as the rules say: all released or at rest while the reset input is active (R185); otherwise INT
and DRQ are undriven while BUS_ENABLE is 0 (R180) and follow R179 and R167 while it is 1, a driver is enabled in GUARD,
TRANSMIT and TURNAROUND alone, and a transmit output is at mark while its transmitter is idle (R1). -/
abbrev OutputsFollow (s : State) : Prop :=
  (s.inReset = true → s.pins = Pins.reset) ∧
  (s.inReset = false →
    (s.events.busEnable = false → s.pins.int = none ∧ s.pins.drq = none) ∧
    (s.events.busEnable = true →
      s.pins.int = some (decide (SomethingUnmasked s)) ∧ s.pins.drq = some (decide (DmaByteWanted s.data))) ∧
    ∀ l : Line,
      (s.pins.de.look l = true ↔
        (s.engine l).state = .guard ∨ (s.engine l).state = .transmit ∨ (s.engine l).state = .turnaround) ∧
      ((s.link l).transmitter = .idle → s.pins.tx.look l = true))

/-! ### A safe state -/

/-- Everything above at once: a state that a run from reset stays within. -/
abbrev Consistent (s : State) : Prop :=
  Memory.wf s.pool.mem = true ∧ Places s ∧ EnginesFit s ∧ StrapsRule s ∧ SchedulersFit s ∧ ValuesInRange s ∧
    OutputsFollow s

/-! ### Where a byte of a command is due -/

/-- The Command Port collects for an opcode and holds these parameter bytes (R137), with the part out of reset. -/
abbrev Collecting (s : State) (op : Opcode) (ps : List Byte) : Prop :=
  s.inReset = false ∧ s.port.state = .collect ∧ s.port.opcode = some op ∧ s.port.params = ps

/-- The row of the opcode table that the write of the last parameter byte of a command is: the row of its opcode, and for
QUERY the row of its kind, its first parameter byte (an unknown kind, refused at byte 1, has no row of its own and stands
under QUERY_POOL). -/
def commandRow (op : Opcode) (ps : List Byte) (last : Byte) : Instr :=
  match op with
  | .submit => .submit last
  | .cancel => .cancel last
  | .purge => .purge last
  | .lineSet => .lineSet last
  | .lineOn => .lineOn last
  | .lineOff => .lineOff last
  | .lineReset => .lineReset last
  | .pollSet => .pollSet last
  | .pollRun => .pollRun last
  | .pollHalt => .pollHalt last
  | .stationSet => .stationSet last
  | .queueSet => .queueSet last
  | .query =>
    if ps.head? = some 1 then .querySlot last
    else if ps.head? = some 2 then .queryLine last
    else if ps.head? = some 3 then .queryStation last
    else if ps.head? = some 4 then .queryChanges last
    else if ps.head? = some 5 then .queryEntry last
    else .queryPool last

/-- Parameter byte i of a command, counted from 1, as a number (0 beyond the bytes given). -/
def paramByte (ps : List Byte) (i : Nat) : Nat := (ps.getD (i - 1) 0).toNat

/-- Parameter byte i of a command lies in its range: the table of section 8.3, with the rules of R146 for two-byte fields,
fields checked against other fields, the flags of SUBMIT and the code fields, and the table of R160 for QUERY. A byte that
the table leaves free is always in range. -/
def InRange (op : Opcode) (ps : List Byte) (i : Nat) : Bool :=
  let v := paramByte ps
  match op, i with
  | .submit, 1 => v 1 ≤ 3
  | .submit, 2 => v 2 ≤ 31
  | .submit, 3 => v 3 ≤ 1
  | .submit, 5 => v 5 ≤ 7
  | .submit, 6 => v 6 ≤ 240
  | .submit, 7 => v 7 ≤ 240
  | .submit, 8 => v 8 ≤ 1
  | .cancel, 1 => v 1 ≤ 15
  | .purge, 1 => v 1 ≤ 3
  | .lineSet, 1 => v 1 ≤ 3
  | .lineSet, 2 => 8 ≤ v 2 + 256 * v 3
  | .lineSet, 4 => v 4 ≤ 15
  | .lineSet, 5 => 1 ≤ v 5
  | .lineSet, 6 => 1 ≤ v 6
  | .lineSet, 7 => 11 ≤ v 7
  | .lineSet, 8 => 1 ≤ v 8 ∧ v 8 ≤ 15
  | .lineSet, 9 => 1 ≤ v 9 ∧ v 9 ≤ 15
  | .lineOn, 1 => v 1 ≤ 3
  | .lineOff, 1 => v 1 ≤ 3
  | .lineOff, 2 => v 2 ≤ 1
  | .lineReset, 1 => v 1 ≤ 3
  | .pollSet, 1 => v 1 ≤ 3
  | .pollSet, 2 => v 2 ≤ 15
  | .pollSet, 3 => 1 ≤ v 3 ∧ v 3 ≤ 31
  | .pollSet, 5 => v 5 ≤ 240
  | .pollSet, 6 => v 6 ≤ 2
  | .pollSet, 7 => v 7 ≤ 7
  | .pollSet, 8 => v 8 ≤ 1
  | .pollRun, 1 => v 1 ≤ 3
  | .pollRun, 2 => 1 ≤ v 2 + 256 * v 3
  | .pollHalt, 1 => v 1 ≤ 3
  | .stationSet, 1 => v 1 ≤ 3
  | .stationSet, 2 => 1 ≤ v 2 ∧ v 2 ≤ 31
  | .stationSet, 3 => v 3 ≤ 2
  | .query, 1 => v 1 ≤ 5
  | .query, 2 => if v 1 = 0 then true else if v 1 = 1 then v 2 ≤ 15 else v 2 ≤ 3
  | .query, 3 => if v 1 = 3 then decide (1 ≤ v 3 ∧ v 3 ≤ 31) else if v 1 = 5 then decide (v 3 ≤ 15) else true
  | .queueSet, 1 => 1 ≤ v 1 ∧ v 1 ≤ 16
  | .queueSet, 2 => v 2 ≤ 15 ∧ v 2 < v 1
  | .queueSet, 3 => 1 ≤ v 3 ∧ v 3 ≤ 16
  | .queueSet, 4 => v 4 ≤ 64
  | _, _ => true

/-- The parameter bytes of a command are all there and all in range. -/
abbrev GoodParams (op : Opcode) (ps : List Byte) : Prop :=
  ps.length = op.paramCount ∧ ∀ i : Fin 10, InRange op ps i.val = true

/-- The command refuses an ABSENT line: every command that names a line, but QUERY (R57, R145). -/
def namesLine (op : Opcode) : Bool :=
  match op with
  | .submit | .purge | .lineSet | .lineOn | .lineOff | .lineReset | .pollSet | .pollRun | .pollHalt | .stationSet => true
  | .cancel | .query | .queueSet => false

/-- The port with a response posted (R139): RESPOND at position 0, with opcode and parameter bytes discarded and no slot
in its assembly. -/
def responding (p : CommandPort) (code : ResponseCode) (info : List Byte) : CommandPort :=
  { state := .respond, opcode := none, params := [], loading := none, response := some { code := code, info := info },
    position := 0, lost := p.lost }

/-- The state after a list of commands, each run with the outcome of the one before (a command that answered no next state
would leave the state as it was). -/
def afterAll (cs : List Instr) (s : State) : State :=
  cs.foldl (fun t c =>
    match exec c t with
    | .next u => u
    | _ => t) s

/-- The engine as an entry to SETTLE leaves it (R82): the stuck timer starts for 704 bit times and stuck raised is cleared;
a DRAINING line with no active slot is OFF and DISABLED at that entry, with its timers stopped (R61). On a line already quiet
for the settle gap SETTLE is left at once: into GUARD with a slot held (R80), into IDLE with none on an ON line. -/
def entersSettle (e : Engine) (quiet : Nat) : Engine :=
  if e.mode = .draining ∧ e.active = none then
    { e with mode := .off, drainKind := none, state := .disabled, leadTimer := none, holdTimer := none,
             replyTimer := none, stuckTimer := none, stuckRaised := false, gapWatch := false }
  else if e.config.settleGap ≤ quiet ∧ e.active ≠ none then
    { e with state := .guard, leadTimer := some 2, stuckTimer := none, stuckRaised := false }
  else if e.config.settleGap ≤ quiet ∧ e.mode = .on then
    { e with state := .idle, stuckTimer := none, stuckRaised := false }
  else { e with state := .settle, stuckTimer := some 704, stuckRaised := false }

/-- The state with a line's engine entering SETTLE, on a line of the quiet time it then has (R5). -/
def settling (l : Line) (t : State) : State :=
  { t with engines := t.engines.put l (entersSettle (t.engine l) (t.link l).quietTime) }

/-- How many of the last bit positions of a character read mark without interruption (R5). -/
def quietMarks (n : Nat) (levels : BitVec n) : Nat := ((List.range n).reverse.takeWhile fun i => levels.getLsbD i).length

/-- The state with a line's engine holding no slot (R68), its reply timer and gap watch stopped (R79). -/
def released (l : Line) (t : State) : State :=
  { t with engines := t.engines.put l { t.engine l with active := none, phase := none, resynced := false,
                                                        replyTimer := none, gapWatch := false } }

/-- The record that a HOST slot completing in a state leaves in the Completion Queue (R123, R124). -/
def hostRecord (s : State) (n : SlotNo) : Record :=
  { slot := n, kind := .transaction, derived := s.derivedOf (s.slot n).line (s.slot n).station }

/-- The Completion Queue with a record at its tail (R124, R126, R132): a record that comes to an empty list is the head, in
its header phase, and the hold state is evaluated. -/
def appended (q : CompletionQueue) (r : Record) : CompletionQueue :=
  let records := q.records ++ [r]
  { q with records := records,
           headerPos := if q.records = [] then 0 else q.headerPos,
           hold := if q.highMark ≤ records.length then .held
                   else if records.length ≤ q.lowMark then .freeRunning
                   else q.hold }

/-- The blocks that the POLL slots among some slots give back, slot by slot, the request chain of each first (R49). -/
def returnedBlocks (s : State) (ns : List SlotNo) : List BlockNo :=
  (ns.filter fun n => (s.slot n).origin == .poll).flatMap fun n => (s.slot n).requestChain ++ (s.slot n).replyChain

end Sys2Proof.Machine
end

