-- ==== Sys2Proof/Certificates/Slice0/Obligations.lean ====
section
/-! DEFINITION. The statements for the provers: what the commands of the 430 do, from the numbered rules of spec/.

A statement `exec c s = .next (State.drive { s with … })` gives the whole next state: the fields written out, every other
field of State as it was (so every byte of payload memory too), and the output pins evaluated after the happening (what
they then are, `Obligations.OutputsFollowEveryStep` says). `responding port code info` is the port with a response posted;
`Collecting s op ps` says that the part is out of reset and the port holds the opcode op and the parameter bytes ps.

Assumption log entry 2 stands behind every statement about a row that is a write to COMMAND: the row is the write of its
byte, and the state of the assembler decides what the byte is (R136, R137, R138). -/

open Sys2Proof Sys2Proof.Machine

/-! ### The machine as a whole -/

/-- Section 5.5: each happening is taken whole by its block. A step takes the command at the front of the queue, with the
queue's rest left to wait. With no command waiting a step changes nothing: that is the model's choice (assumption log entry
4), for the table has no row for the passing of time. -/
def Obligations.StepRunsFrontCommandOrIdles : Prop :=
  (∀ (c : Instr) (rest : List Instr) (s : State),
    step { s with pending := c :: rest } = exec c { s with pending := rest }) ∧
  ∀ s : State, s.pending = [] → step s = .next s

/-- R138: the 430 refuses no bus access; section 5.5: each happening is taken whole. Every command, in every state, answers
a next state, and leaves the commands that wait as they are. That a command whose happening the state excludes answers a next
state too, with nothing changed, is the model's choice (assumption log entry 3); the commands that wait are the model's own
field (assumption log entry 22). -/
def Obligations.EveryCommandCompletes : Prop :=
  ∀ (c : Instr) (s : State), ∃ t : State, exec c s = .next t ∧ t.pending = s.pending

/-! ### Resets (R185) -/

/-- R185 with R20, R45, R56, R57, R64, R19, R99, R119, R135, R144, R173, R181, R186: at the release of the reset input every
block takes its hardware-reset values, whatever state it was in, and the straps decide which lines are OFF and which are
ABSENT. The values of the link's kept characters and of the data bus are the model's choice (assumption log entry 8). -/
def Obligations.HardwareResetSetsEveryBlock : Prop :=
  ∀ (straps : BitVec 4) (s : State), ∃ t : State, exec (.hardwareReset straps) s = .next t ∧
    t.inReset = false ∧ t.straps = straps ∧ t.tick = 0 ∧ t.tickLatch = 0 ∧ t.dataBus = 0 ∧ t.pending = s.pending ∧
    (∀ n : SlotNo, t.slot n =
      { state := .free, origin := .host, line := 0, station := 0, cls := .normal, tag := 0, retryLimit := 0,
        attempts := 0, requestLength := 0, replyRoom := 0, requestChain := [], replyChain := [], replyLength := none,
        lastFailure := none, requestSent := false, cancelPending := none, outcome := none, doneTime := 0 }) ∧
    (∀ a : Nat, Memory.read t.pool.mem a = 0) ∧
    t.pool.free = List.finRange 128 ∧ t.pool.leastFree = 128 ∧ t.pool.hostReserve = 16 ∧
    (∀ l : Line, t.engine l =
      { mode := if straps.getLsb l then .off else .absent, drainKind := none, state := .disabled, active := none,
        phase := none, resynced := false, queue := [],
        config := { divisor := 208, turnaroundHold := 2, replyTimeout := 20, gapLimit := 22, settleGap := 33,
                    offlineThreshold := 3, probeInterval := 4 },
        leadTimer := none, holdTimer := none, replyTimer := none, stuckTimer := none, stuckRaised := false,
        gapWatch := false }) ∧
    (∀ l : Line, t.link l =
      { transmitter := .idle, receiver := .armed, check := 0xFFFF, charCount := 0, control := 0, length := 0,
        checkHigh := 0, stored := 0, sendCount := 0, sentToggle := false, quietTime := 0, gap := 0 }) ∧
    (∀ l : Line, (t.stationLine l).changes = 0 ∧ ∀ i : Fin 31, (t.stationLine l).records.look i =
      { failureCount := 0, replied := false, sync := .unsync, toggle := false }) ∧
    (∀ l : Line, (t.sched l).run = .stopped ∧ (t.sched l).period = 1000 ∧ (t.sched l).cycleTimer = 0 ∧
      (t.sched l).cycleNumber = 0 ∧ (t.sched l).due = [] ∧ (t.sched l).deferrals = 0 ∧
      ∀ e : EntryNo, t.entry l e =
        { definition := { enabled := false, station := 1, item := 0, replyRoom := 0, policy := .onChange,
                          retryLimit := 0 },
          digest := none, live := none }) ∧
    t.queue = { records := [], headerPos := 0, hold := .freeRunning, highMark := 12, lowMark := 4, trigger := 1 } ∧
    t.port = { state := .ready, opcode := none, params := [], loading := none, response := none, position := 0,
               lost := false } ∧
    t.data = { owner := .none, intake := none, outflow := none, moved := 0, dmaUsed := false, halted := false,
               resultDma := false } ∧
    (∀ l : Line, t.events.stuck.look l = false ∧ t.events.overrun.look l = false) ∧
    t.events.dmaEnd = false ∧ t.events.mask = 0 ∧ t.events.busEnable = false ∧
    t.pins.int = none ∧ t.pins.drq = none ∧ (∀ l : Line, t.pins.tx.look l = true ∧ t.pins.de.look l = false)

/-- R44, R56, R63, R19, R100, R120, R135, R144, R173, R181, R185: a soft reset frees every slot, rebuilds the free list,
turns every present line OFF with its frame cut, clears the stations and the schedulers, empties the queue, resets both
ports and the Event Unit; it keeps the line configurations, the entry definitions, the QUEUE_SET values, the block contents,
the tick counter with its latch, and the straps. The link of an ABSENT line is kept. R19 does not name the kept control,
length and check characters, the bytes stored and the toggle sent of a link; that they are kept is the model's reading
(assumption log entry 25). -/
def Obligations.SoftResetClearsAndKeeps : Prop :=
  ∀ s : State, s.inReset = false → ∃ t : State, exec .softReset s = .next t ∧
    (∀ n : SlotNo, t.slot n = Slot.cleared) ∧
    t.pool = { s.pool with free := List.finRange 128, leastFree := 128 } ∧
    (∀ l : Line, t.engine l =
      { mode := if (s.engine l).mode = .absent then .absent else .off, drainKind := none, state := .disabled,
        active := none, phase := none, resynced := false, queue := [], config := (s.engine l).config,
        leadTimer := none, holdTimer := none, replyTimer := none, stuckTimer := none, stuckRaised := false,
        gapWatch := false }) ∧
    (∀ l : Line, t.link l =
      if (s.engine l).mode = .absent then s.link l
      else { s.link l with transmitter := .idle, receiver := .waitMark, check := 0xFFFF, charCount := 0, sendCount := 0,
                           quietTime := 0, gap := 0 }) ∧
    (∀ l : Line, (t.stationLine l).changes = 0 ∧ ∀ i : Fin 31, (t.stationLine l).records.look i =
      { failureCount := 0, replied := false, sync := .unsync, toggle := false }) ∧
    (∀ l : Line, (t.sched l).run = .stopped ∧ (t.sched l).period = 1000 ∧ (t.sched l).cycleTimer = 0 ∧
      (t.sched l).cycleNumber = 0 ∧ (t.sched l).due = [] ∧ (t.sched l).deferrals = 0 ∧
      ∀ e : EntryNo, t.entry l e = { s.entry l e with digest := none, live := none }) ∧
    t.queue = { s.queue with records := [], headerPos := 0, hold := .freeRunning } ∧
    t.port = { state := .ready, opcode := none, params := [], loading := none, response := none, position := 0,
               lost := false } ∧
    t.data = { owner := .none, intake := none, outflow := none, moved := 0, dmaUsed := false, halted := false,
               resultDma := false } ∧
    (∀ l : Line, t.events.stuck.look l = false ∧ t.events.overrun.look l = false) ∧
    t.events.dmaEnd = false ∧ t.events.mask = 0 ∧ t.events.busEnable = false ∧
    t.inReset = false ∧ t.straps = s.straps ∧ t.tick = s.tick ∧ t.tickLatch = s.tickLatch ∧ t.dataBus = s.dataBus

/-- R185: when the reset input becomes active, INT and DRQ are released, every transmit output is at mark and every driver
off; while it is active every command but the release leaves the part as it is, and a read returns 0: so does a read at any
of the eight offsets, those of MAIN STATUS, EVENT MASK and TICK HIGH among them, which have no row (assumption log entry 21),
and a write at any offset changes nothing. That nothing inside the part moves meanwhile is the model's reading (assumption
log entry 13). -/
def Obligations.ResetInputHoldsThePart : Prop :=
  (∀ s : State, exec .resetInputActive s =
    .next { s with inReset := true, pins := { int := none, drq := none, tx := Table.fill 4 true, de := Table.fill 4 false } }) ∧
  (∀ (c : Instr) (s : State), s.inReset = true → c ≠ .resetInputActive → (∀ straps, c ≠ .hardwareReset straps) →
    exec c s = .next
      { s with dataBus :=
          match c with
          | .responseRead | .resultRead | .dataRead | .dmaReadAck _ | .causeRead | .tickLowRead => 0
          | _ => s.dataBus }) ∧
  ∀ (s : State) (offset : Fin 8), s.inReset = true →
    s.readAt offset = (0, s) ∧ ∀ b : Byte, s.writeAt offset b = s

/-- The reset state is a safe one: R20, R22, R46, R123 (slots and blocks), chapter 4 (engines), R57 (straps), R64, R87, R134
(ranges), R181 (outputs), with the memory in canonical form. It rests on the model's strap levels (assumption log entry
1). -/
def Obligations.ResetStateIsConsistent : Prop := Consistent State.reset

/-! ### The Command Port (chapter 8) -/

/-- R136, R137, sections 8.3 and 11.5: a write to COMMAND in READY is an opcode byte. The thirteen opcodes enter COLLECT
with no parameter bytes, and each calls for its number of them; any other value posts BAD_OPCODE at once. A parameter byte
that is not the last joins the bytes collected. -/
def Obligations.OpcodeAndParameterBytesAreCollected : Prop :=
  let opcodes : List (Byte × Opcode × Nat) :=
    [(0x10, .submit, 8), (0x11, .cancel, 1), (0x12, .purge, 1), (0x20, .lineSet, 9), (0x21, .lineOn, 1),
     (0x22, .lineOff, 2), (0x23, .lineReset, 1), (0x30, .pollSet, 8), (0x31, .pollRun, 3), (0x32, .pollHalt, 1),
     (0x40, .stationSet, 3), (0x50, .query, 3), (0x60, .queueSet, 4)]
  (∀ (s : State) (b : Byte), s.inReset = false → s.port.state = .ready →
    (∀ (op : Opcode) (n : Nat), (b, op, n) ∈ opcodes →
      op.paramCount = n ∧
      exec (.opcodeByte b) s =
        .next (State.drive { s with port := { s.port with state := .collect, opcode := some op, params := [] } })) ∧
    ((∀ x ∈ opcodes, b ≠ x.1) →
      exec (.opcodeByte b) s = .next (State.drive { s with port := responding s.port .badOpcode [] }))) ∧
  ∀ (s : State) (op : Opcode) (ps : List Byte) (b : Byte), Collecting s op ps → ps.length + 1 < op.paramCount →
    exec (.parameterByte b) s = .next (State.drive { s with port := { s.port with params := ps ++ [b] } })

/-- R138: a write to COMMAND in PAYLOAD or RESPOND is dropped and sets LOST, and nothing else of the port changes; the same
flag is set by a write to DATA that the Data Port cannot take. The bus access completes. -/
def Obligations.CommandWriteIsDroppedAndLost : Prop :=
  ∀ (s : State) (b : Byte), s.inReset = false →
    (s.port.state = .payload ∨ s.port.state = .respond →
      exec (.commandWriteDropped b) s = .next (State.drive { s with port := { s.port with lost := true } })) ∧
    (s.data.owner ≠ .intake →
      exec (.dataWrite b) s = .next (State.drive { s with port := { s.port with lost := true } }))

/-- R145 step 1, R146, R160 and the tables of sections 8.3 and 11.5 (`InRange`): when the last parameter byte is in and byte
i is the first one out of its range, the command is refused BAD_PARAM with i, and no block but the port changes. -/
def Obligations.FirstBadByteIsRefused : Prop :=
  ∀ (s : State) (op : Opcode) (ps : List Byte) (last : Byte) (i : Fin 10), Collecting s op ps →
    ps.length + 1 = op.paramCount →
    InRange op (ps ++ [last]) i.val = false → (∀ j : Fin 10, j < i → InRange op (ps ++ [last]) j.val = true) →
    exec (commandRow op ps last) s = .next (State.drive { s with port := responding s.port .badParam [byteOf i.val] })

/-- R57, R59, R145 steps 2 and 3, with good ranges: a command that names a line is refused NO_LINE when it is ABSENT;
SUBMIT and POLL_RUN are refused LINE_OFF in OFF and DRAINING; LINE_SET and LINE_ON are refused LINE_BUSY in ON and DRAINING;
LINE_OFF is refused LINE_OFF in OFF, and LINE_BUSY in DRAINING unless it turns a drain into an abort. R145 steps 4 and 5:
CANCEL of a FREE or DONE slot is refused NOT_CANCELLABLE, POLL_SET of an entry with a live slot ENTRY_BUSY, and SUBMIT on an
ON line NO_SLOT when no slot is FREE and NO_ROOM when a slot is FREE but the blocks of its request and reply (no reply for
station 0) are more than the free ones. No block but the port changes in any of these. -/
def Obligations.LineSlotAndRoomChecksRefuse : Prop :=
  (∀ (s : State) (op : Opcode) (ps : List Byte) (last : Byte) (l : Line), Collecting s op ps →
    GoodParams op (ps ++ [last]) → namesLine op = true → paramByte (ps ++ [last]) 1 = l.val →
    let refused (code : ResponseCode) : Prop :=
      exec (commandRow op ps last) s = .next (State.drive { s with port := responding s.port code [] })
    ((s.engine l).mode = .absent → refused .noLine) ∧
    ((s.engine l).mode = .off ∨ (s.engine l).mode = .draining → op = .submit ∨ op = .pollRun → refused .lineOff) ∧
    ((s.engine l).mode = .on ∨ (s.engine l).mode = .draining → op = .lineSet ∨ op = .lineOn → refused .lineBusy) ∧
    ((s.engine l).mode = .off → op = .lineOff → refused .lineOff) ∧
    ((s.engine l).mode = .draining → op = .lineOff → (s.engine l).drainKind = some .abort ∨ last = 0 →
      refused .lineBusy)) ∧
  (∀ (s : State) (n : SlotNo), Collecting s .cancel [] → (s.slot n).state = .free ∨ (s.slot n).state = .done →
    exec (.cancel (byteOf n.val)) s = .next (State.drive { s with port := responding s.port .notCancellable [] })) ∧
  (∀ (s : State) (ps : List Byte) (last : Byte) (l : Line) (e : EntryNo), Collecting s .pollSet ps →
    GoodParams .pollSet (ps ++ [last]) → paramByte ps 1 = l.val → paramByte ps 2 = e.val →
    (s.engine l).mode ≠ .absent → (s.entry l e).live ≠ none →
    exec (.pollSet last) s = .next (State.drive { s with port := responding s.port .entryBusy [] })) ∧
  (∀ (s : State) (ps : List Byte) (last : Byte) (l : Line), Collecting s .submit ps → GoodParams .submit (ps ++ [last]) →
    paramByte ps 1 = l.val → (s.engine l).mode = .on →
    let request := (paramByte ps 6 + 15) / 16
    let reply := if paramByte ps 2 = 0 then 0 else (paramByte ps 7 + 15) / 16
    ((∀ n : SlotNo, (s.slot n).state ≠ .free) →
      exec (.submit last) s = .next (State.drive { s with port := responding s.port .noSlot [] })) ∧
    ((∃ n : SlotNo, (s.slot n).state = .free) → s.pool.free.length < request + reply →
      exec (.submit last) s = .next (State.drive { s with port := responding s.port .noRoom [] })))

/-- R145: a refused command changes nothing in any block. Whatever the command, its bytes and the state, if the port
collects it with no response left from before and the next state holds any response but ACCEPTED and DONE, then only the
port has changed (and the outputs that follow it). -/
def Obligations.RefusedCommandChangesNothing : Prop :=
  ∀ (s t : State) (op : Opcode) (ps : List Byte) (last : Byte) (r : Response), Collecting s op ps →
    s.port.response = none → exec (commandRow op ps last) s = .next t → t.port.response = some r →
    r.code ≠ .accepted → r.code ≠ .done →
    t = { s with port := t.port, pins := t.pins } ∧ t.port = responding s.port r.code r.info

/-- R139, R140, R147: in RESPOND a read of RESPONSE drives the next byte of the response, its code first; the read that
finds position 0 clears LOST and any other read leaves it; the read of the last byte discards the response and enters READY.
In every other state a read returns 0 and changes nothing. The
codes are those of section 11.5. -/
def Obligations.ResponseIsReadByteByByte : Prop :=
  [ResponseCode.accepted, .done, .aborted, .badOpcode, .badParam, .noLine, .lineOff, .lineBusy, .noSlot, .noRoom,
    .shortPayload, .notCancellable, .entryBusy].map ResponseCode.code =
    [0x01, 0x02, 0x03, 0x81, 0x82, 0x83, 0x84, 0x85, 0x86, 0x87, 0x88, 0x89, 0x8A] ∧
  (∀ (s : State) (r : Response) (b : Byte), s.inReset = false → s.port.state = .respond → s.port.response = some r →
    (r.code.code :: r.info)[s.port.position]? = some b →
    exec .responseRead s = .next (State.drive
      { s with dataBus := b,
               port :=
                 if s.port.position = r.info.length then
                   { s.port with state := .ready, response := none, position := 0,
                                 lost := if s.port.position = 0 then false else s.port.lost }
                 else
                   { s.port with position := s.port.position + 1,
                                 lost := if s.port.position = 0 then false else s.port.lost } })) ∧
  ∀ s : State, s.inReset = false → s.port.state ≠ .respond →
    exec .responseRead s = .next (State.drive { s with dataBus := 0 })

/-! ### The thirteen commands (sections 8.3 and 8.4) -/

/-- R148, R24, R23, R47, R29, R164: an accepted SUBMIT on an ON line takes the lowest FREE slot and writes its record with
the reply room 0 for station 0; the first blocks of the free list form its request chain and the next ones its reply chain.
With a request length above 0 the slot is LOADING, the port enters PAYLOAD and INTAKE is raised (owner at once when the port
is free, waiting otherwise); with request length 0 the slot is QUEUED at the tail of its class and ACCEPTED is posted. No
byte of memory and nothing else changes. That the port keeps opcode and parameter bytes in PAYLOAD, until a response is
posted, is the model's reading of R139 (assumption log entry 12). -/
def Obligations.SubmitCreatesSlot : Prop :=
  ∀ (s : State) (p : SubmitParams) (n : SlotNo),
    p.cls ≠ .poll → p.retryLimit ≤ 7 → p.requestLength ≤ 240 → p.replyRoom ≤ 240 →
    Collecting s .submit [byteOf p.line.val, byteOf p.station.val, if p.cls = .urgent then 0 else 1, p.tag,
      byteOf p.retryLimit, byteOf p.requestLength, byteOf p.replyRoom] →
    (s.engine p.line).mode = .on → (s.slot n).state = .free → (∀ m : SlotNo, m < n → (s.slot m).state ≠ .free) →
    let room := if p.station = 0 then 0 else p.replyRoom
    let request := (p.requestLength + 15) / 16
    let reply := (room + 15) / 16
    request + reply ≤ s.pool.free.length →
    let slot : Slot :=
      { state := if p.requestLength = 0 then .queued else .loading, origin := .host, line := p.line,
        station := p.station, cls := p.cls, tag := p.tag, retryLimit := p.retryLimit, attempts := 0,
        requestLength := p.requestLength, replyRoom := room, requestChain := s.pool.free.take request,
        replyChain := (s.pool.free.drop request).take reply, replyLength := none, lastFailure := none,
        requestSent := false, cancelPending := none, outcome := none, doneTime := 0 }
    let created : State :=
      { s with slots := s.slots.put n slot,
               pool := { s.pool with free := s.pool.free.drop (request + reply),
                                     leastFree := min s.pool.leastFree (s.pool.free.length - (request + reply)) } }
    let e := s.engine p.line
    let queue := e.queue.takeWhile (fun m => decide ((created.slot m).cls.rank ≤ p.cls.rank)) ++
      n :: e.queue.dropWhile (fun m => decide ((created.slot m).cls.rank ≤ p.cls.rank))
    let intake : DataPort := { s.data with intake := some { total := p.requestLength, dma := p.dma } }
    exec (.submit (flagByte p.dma)) s = .next (State.drive
      (if p.requestLength = 0 then
        { created with engines := s.engines.put p.line { e with queue := queue },
                       port := responding s.port .accepted [byteOf n.val] }
      else
        { created with
          port := { s.port with state := .payload, loading := some n,
                                params := s.port.params ++ [flagByte p.dma] },
          data := if s.data.owner = .none then
                    { intake with owner := .intake, moved := 0, dmaUsed := false, halted := false }
                  else intake }))

/-- R149, R37, R39: CANCEL of a QUEUED slot takes it from its queue and completes it CANCELLED; CANCEL of the active slot
of its line sets cancel pending CANCELLED, upon which the engine acts by its state (`State.engineCancel`, see
`Obligations.CancelEndsTheActiveSlot`); with cancel pending set already nothing but the response changes. The response is
DONE in each case. -/
def Obligations.CancelActsBySlotState : Prop :=
  ∀ (s : State) (n : SlotNo), Collecting s .cancel [] →
    let l := (s.slot n).line
    let e := s.engine l
    ((s.slot n).state = .queued →
      let t := ({ s with engines := s.engines.put l { e with queue := e.queue.erase n } }).complete n .cancelled
      exec (.cancel (byteOf n.val)) s = .next (State.drive { t with port := responding s.port .done [] })) ∧
    ((s.slot n).state = .active → e.active = some n → (s.slot n).cancelPending = none →
      let t := ({ s with slots := s.slots.put n { s.slot n with cancelPending := some .cancelled } }).engineCancel l n
        .cancelled
      exec (.cancel (byteOf n.val)) s = .next (State.drive { t with port := responding s.port .done [] })) ∧
    ((s.slot n).state = .active → (s.slot n).cancelPending ≠ none →
      exec (.cancel (byteOf n.val)) s = .next (State.drive { s with port := responding s.port .done [] }))

/-- R150, R40: PURGE of a line that is not ABSENT completes every QUEUED slot of the line CANCELLED in queue order and answers
DONE; nothing else changes. R41, R35, R36, R49, R116, R124, R132: the completion of a queue with an outcome other than OK and
SENT, in a state where every slot stands in its place. Each HOST slot of the queue becomes DONE with the outcome and the
present tick, and its TRANSACTION record joins the Completion Queue in queue order, the hold state evaluated at each; each
POLL slot becomes FREE, its blocks join the tail of the free list in queue order, and the entry of its tag has neither digest
nor live slot. The station of a slot whose request was sent becomes UNSYNC, its other fields kept; no change set grows. The
queue is then empty; every slot not in it, every other station and entry and everything else is as it was. That a DONE slot
keeps its cancel pending flag is the model's reading (assumption log entry 11). -/
def Obligations.PurgeCompletesTheQueue : Prop :=
  (∀ (s : State) (l : Line), Collecting s .purge [] → (s.engine l).mode ≠ .absent →
    exec (.purge (byteOf l.val)) s =
      .next (State.drive { s.completeQueue l .cancelled with port := responding s.port .done [] })) ∧
  ∀ (s : State) (l : Line) (o : TransactionOutcome), Places s → o ≠ .ok → o ≠ .sent →
    let queue := (s.engine l).queue
    let t := s.completeQueue l o
    (∀ n ∈ queue, (s.slot n).origin = .host →
      t.slot n = { s.slot n with state := .done, outcome := some o, doneTime := s.tick }) ∧
    (∀ n ∈ queue, (s.slot n).origin = .poll → t.slot n = Slot.cleared) ∧
    (∀ n : SlotNo, n ∉ queue → t.slot n = s.slot n) ∧
    t.queue = ((queue.filter fun n => (s.slot n).origin == .host).map (hostRecord s)).foldl appended s.queue ∧
    t.pool.free = s.pool.free ++ returnedBlocks s queue ∧
    (∀ (k : Line) (a : StationAddr), t.station k a =
      if k = l ∧ a ≠ 0 ∧ ∃ n ∈ queue, (s.slot n).station = a ∧ (s.slot n).requestSent = true then
        { s.station k a with sync := .unsync }
      else s.station k a) ∧
    (∀ (k : Line) (e : EntryNo), t.entry k e =
      if k = l ∧ ∃ n ∈ queue, (s.slot n).origin = .poll ∧ (s.slot n).tag.toNat % 16 = e.val then
        { s.entry k e with digest := none, live := none }
      else s.entry k e) ∧
    (∀ k : Line, (t.stationLine k).changes = (s.stationLine k).changes ∧
      t.sched k = { s.sched k with entries := (t.sched k).entries }) ∧
    t = { s with slots := t.slots, pool := { s.pool with free := t.pool.free },
                 engines := s.engines.put l { s.engine l with queue := [] }, stations := t.stations,
                 scheds := t.scheds, queue := t.queue }

/-- R151, R65, R19, R94: an accepted LINE_SET, on an OFF line, replaces the seven configuration values; a changed divisor
makes the receiver discard a partial character and the quiet time and gap start from zero; a changed offline threshold adds
to the change set the stations that stand on different sides of the OFFLINE boundary under the old and the new one. No record
field changes. The response is DONE. R152, R58, R82: an accepted LINE_ON, on an OFF line, makes the mode ON with the engine
in SETTLE and the stuck timer started for 704 bit times; the pending queue and everything else is kept. The response is DONE.
On a line already quiet for the settle gap SETTLE is left at once, into IDLE (`entersSettle`). That a receiver that was
assembling a character is armed after a changed divisor is the model's choice (assumption log entry 16). -/
def Obligations.LineSetAndLineOnActOnAnOffLine : Prop :=
  (∀ (s : State) (l : Line) (c : LineConfig), ConfigInRange c →
    Collecting s .lineSet [byteOf l.val, lowByte (BitVec.ofNat 16 c.divisor), highByte (BitVec.ofNat 16 c.divisor),
      byteOf c.turnaroundHold, byteOf c.replyTimeout, byteOf c.gapLimit, byteOf c.settleGap,
      byteOf c.offlineThreshold] →
    (s.engine l).mode = .off →
    let old := (s.engine l).config
    ∃ t : State, exec (.lineSet (byteOf c.probeInterval)) s = .next t ∧
      t.engines = s.engines.put l { s.engine l with config := c } ∧
      t.links = s.links.put l
        (if c.divisor = old.divisor then s.link l
         else { s.link l with receiver := (match (s.link l).receiver with
                                           | .assembling _ => .armed
                                           | r => r),
                              quietTime := 0, gap := 0 }) ∧
      (∀ k : Line, (t.stationLine k).records = (s.stationLine k).records) ∧
      (∀ k : Line, k ≠ l → (t.stationLine k).changes = (s.stationLine k).changes) ∧
      (∀ a : StationAddr, (t.stationLine l).changes.getLsbD a.val = true ↔
        (s.stationLine l).changes.getLsbD a.val = true ∨
          (a.val ≠ 0 ∧ ((s.station l a).derived old.offlineThreshold = .offline ↔
                        (s.station l a).derived c.offlineThreshold ≠ .offline))) ∧
      t = { s with engines := t.engines, links := t.links, stations := t.stations, port := responding s.port .done [],
                   pins := t.pins }) ∧
  ∀ (s : State) (l : Line), Collecting s .lineOn [] → (s.engine l).mode = .off →
    exec (.lineOn (byteOf l.val)) s = .next (State.drive
      { s with engines := s.engines.put l (entersSettle { s.engine l with mode := .on } (s.link l).quietTime),
               port := responding s.port .done [] })

/-- R153, R59, R60, R106: LINE_OFF stops the line's scheduler when it is taken in ON. With no active slot the line is OFF
at once, its queue kept by a drain and completed LINE_DOWN by an abort. With an active slot a drain makes the line DRAINING
of kind DRAIN and leaves slots and engine alone; an abort makes it DRAINING of kind ABORT, completes the queue LINE_DOWN and
cancels the active slot with outcome LINE_DOWN: a flag that is set already keeps its outcome and nothing more happens to
the slot (R39); otherwise its cancel pending is set with LINE_DOWN and the engine acts by its state (`State.engineCancel`,
see `Obligations.CancelEndsTheActiveSlot`). An abort of a draining line does the same. What the completion of a queue does,
`Obligations.PurgeCompletesTheQueue` says. The response is DONE. -/
def Obligations.LineOffDrainsOrAborts : Prop :=
  ∀ (s : State) (l : Line), Collecting s .lineOff [byteOf l.val] →
    let e := s.engine l
    let halted : Scheduler := { s.sched l with run := .stopped, due := [] }
    let off : Engine := { e with mode := .off, drainKind := none, state := .disabled, leadTimer := none,
                                 holdTimer := none, replyTimer := none, stuckTimer := none, gapWatch := false }
    let aborting (t : State) : State :=
      let u := ({ t with engines := t.engines.put l { e with mode := .draining, drainKind := some .abort } }).completeQueue l
        .lineDown
      match e.active with
      | none => u
      | some n =>
        if (u.slot n).cancelPending = none then
          ({ u with slots := u.slots.put n { u.slot n with cancelPending := some .lineDown } }).engineCancel l n .lineDown
        else u
    let answers (kind : Byte) (t : State) : Prop :=
      exec (.lineOff kind) s = .next (State.drive { t with port := responding s.port .done [] })
    (e.mode = .on → e.active = none →
      answers 0 { s with scheds := s.scheds.put l halted, engines := s.engines.put l off } ∧
      answers 1 (({ s with scheds := s.scheds.put l halted, engines := s.engines.put l off }).completeQueue l
        .lineDown)) ∧
    (e.mode = .on → e.active ≠ none →
      answers 0 { s with scheds := s.scheds.put l halted,
                         engines := s.engines.put l { e with mode := .draining, drainKind := some .drain } } ∧
      answers 1 (aborting { s with scheds := s.scheds.put l halted })) ∧
    (e.mode = .draining → e.drainKind = some .drain → answers 1 (aborting s))

/-- R154, R62, R42, R101, R121, R174: LINE_RESET of a line that is not ABSENT. In a state where every slot stands in its
place: each HOST slot that was QUEUED or ACTIVE on the line becomes DONE, with outcome LINE_DOWN or, for the active slot, the
outcome of its cancel pending flag; each POLL slot becomes FREE; no other slot changes. The engine is OFF and DISABLED with
its configuration kept, the link is cut, stations and scheduler of the line take their reset values with definitions and
period kept, LINE_STUCK and CYCLE_OVERRUN of the line are cleared. The records of the HOST slots join the Completion Queue
and the blocks of the POLL slots the tail of the free list, in queue order with the active slot last. The other lines, and
memory, are as they were. The response is DONE. That a DONE slot keeps its cancel pending flag, and the link its kept
control, length and check characters, bytes stored and toggle sent, is the model's reading (assumption log entries 11 and
25). -/
def Obligations.LineResetClearsTheLine : Prop :=
  ∀ (s : State) (l : Line), Places s → Collecting s .lineReset [] → (s.engine l).mode ≠ .absent →
    let ended (n : SlotNo) : Prop := n ∈ (s.engine l).queue ∨ (s.engine l).active = some n
    ∃ t : State, exec (.lineReset (byteOf l.val)) s = .next t ∧
      (∀ n : SlotNo, ended n → (s.slot n).origin = .host → t.slot n =
        { s.slot n with state := .done, doneTime := s.tick,
                        outcome := if (s.engine l).active = some n ∧ (s.slot n).cancelPending = some .cancelled then
                                     some .cancelled else some .lineDown }) ∧
      (∀ n : SlotNo, ended n → (s.slot n).origin = .poll → t.slot n = Slot.cleared) ∧
      (∀ n : SlotNo, ¬ ended n → t.slot n = s.slot n) ∧
      t.queue = ((((s.engine l).queue ++ (s.engine l).active.toList).filter fun n => (s.slot n).origin == .host).map
        (hostRecord s)).foldl appended s.queue ∧
      t.pool.free = s.pool.free ++ returnedBlocks s ((s.engine l).queue ++ (s.engine l).active.toList) ∧
      t.engines = s.engines.put l
        { mode := .off, drainKind := none, state := .disabled, active := none, phase := none, resynced := false,
          queue := [], config := (s.engine l).config, leadTimer := none, holdTimer := none, replyTimer := none,
          stuckTimer := none, stuckRaised := false, gapWatch := false } ∧
      t.links = s.links.put l
        { s.link l with transmitter := .idle, receiver := .waitMark, check := 0xFFFF, charCount := 0, sendCount := 0,
                        quietTime := 0, gap := 0 } ∧
      t.stations = s.stations.put l
        { records := Table.fill 31 { failureCount := 0, replied := false, sync := .unsync, toggle := false },
          changes := 0 } ∧
      (∀ k : Line, k ≠ l → t.sched k = s.sched k) ∧
      (t.sched l).run = .stopped ∧ (t.sched l).period = (s.sched l).period ∧ (t.sched l).cycleTimer = 0 ∧
      (t.sched l).cycleNumber = 0 ∧ (t.sched l).due = [] ∧ (t.sched l).deferrals = 0 ∧
      (∀ e : EntryNo, t.entry l e = { s.entry l e with digest := none, live := none }) ∧
      t.events = { s.events with stuck := s.events.stuck.put l false, overrun := s.events.overrun.put l false } ∧
      t = { s with slots := t.slots, pool := { s.pool with free := t.pool.free }, engines := t.engines,
                   links := t.links, stations := t.stations, scheds := t.scheds, events := t.events, queue := t.queue,
                   port := responding s.port .done [], pins := t.pins }

/-- R155, R103 and R157, R106, on a line that is not ABSENT: POLL_SET of an entry with no live slot replaces its definition
and makes its digest absent; POLL_HALT stops the scheduler and empties its due list, keeping period, cycle number and
deferral count. Nothing else changes; the response is DONE. -/
def Obligations.PollSetAndPollHalt : Prop :=
  (∀ (s : State) (l : Line) (e : EntryNo) (d : PollDef), d.station ≠ 0 → d.replyRoom ≤ 240 → d.retryLimit ≤ 7 →
    Collecting s .pollSet [byteOf l.val, byteOf e.val, byteOf d.station.val, d.item, byteOf d.replyRoom,
      (match d.policy with
       | .onChange => 0
       | .always => 1
       | .statusOnly => 2), byteOf d.retryLimit] →
    (s.engine l).mode ≠ .absent → (s.entry l e).live = none →
    exec (.pollSet (flagByte d.enabled)) s = .next (State.drive
      { s with scheds := s.scheds.put l
                 { s.sched l with entries := (s.sched l).entries.put e { definition := d, digest := none, live := none } },
               port := responding s.port .done [] })) ∧
  ∀ (s : State) (l : Line), Collecting s .pollHalt [] → (s.engine l).mode ≠ .absent →
    exec (.pollHalt (byteOf l.val)) s = .next (State.drive
      { s with scheds := s.scheds.put l { s.sched l with run := .stopped, due := [] },
               port := responding s.port .done [] })

/-- R93, R87, R88, R95: STATION_SET of a station from 1 to 31 is refused NO_LINE on an ABSENT line; in every other mode its
action changes its one field of the named record, the station joins the change set exactly when its derived state moves into
or out of OFFLINE, no other record changes, and the response is DONE. -/
def Obligations.StationSetAppliesItsAction : Prop :=
  ∀ (s : State) (l : Line) (a : StationAddr) (action : Fin 3), a ≠ 0 →
    Collecting s .stationSet [byteOf l.val, byteOf a.val] →
    ((s.engine l).mode = .absent →
      exec (.stationSet (byteOf action.val)) s = .next (State.drive { s with port := responding s.port .noLine [] })) ∧
    ((s.engine l).mode ≠ .absent →
      let old := s.station l a
      let new : Station :=
        match action with
        | 0 => { old with failureCount := 0 }
        | 1 => { old with sync := .unsync }
        | 2 => { old with failureCount := 15 }
      let threshold := (s.engine l).config.offlineThreshold
      let crosses : Prop := ¬ (old.derived threshold = .offline ↔ new.derived threshold = .offline)
      ∃ t : State, exec (.stationSet (byteOf action.val)) s = .next t ∧
        t.station l a = new ∧
        (∀ (k : Line) (b : StationAddr), k ≠ l ∨ b ≠ a → t.station k b = s.station k b) ∧
        (∀ (k : Line) (n : Nat), (t.stationLine k).changes.getLsbD n = true ↔
          (s.stationLine k).changes.getLsbD n = true ∨ (k = l ∧ n = a.val ∧ crosses)) ∧
        t = { s with stations := t.stations, port := responding s.port .done [], pins := t.pins })

/-- R160 to R163, R55, R96, R98, R117, R118, section 11.6: each kind of QUERY answers DONE with its record, its fields in
the order and in the codes of the formats chapter. POOL then sets the least free count to the free count, LINE sets the
deferral count to 0, CHANGES empties the change set; nothing else changes. The unused bytes a and b may hold any value. The
derived state of STATION is the first of R88's table that applies. The codes are those of section 11.6. -/
def Obligations.QueryReturnsItsRecord : Prop :=
  ([SlotState.free, .loading, .queued, .active, .done].map SlotState.code = [0, 1, 2, 3, 4] ∧
    [Origin.host, .poll].map Origin.code = [0, 1] ∧
    [SlotClass.urgent, .normal, .poll].map SlotClass.code = [0, 1, 2] ∧
    [TransactionOutcome.ok, .sent, .cancelled, .lineDown, .replyTooLong, .noReply, .garbled, .wrongStation, .stale, .busy,
      .collision].map TransactionOutcome.code = [1, 2, 3, 4, 5, 6, 7, 8, 9, 10, 11] ∧
    [Failure.silence, .garbled, .wrongStation, .stale, .busy, .collision].map Failure.code = [1, 2, 3, 4, 5, 6] ∧
    [PendingOutcome.cancelled, .lineDown].map PendingOutcome.code = [1, 2] ∧
    [Sync.unsync, .synced].map Sync.code = [0, 1] ∧
    [LineMode.absent, .off, .on, .draining].map LineMode.code = [0, 1, 2, 3] ∧
    [DrainKind.drain, .abort].map DrainKind.code = [1, 2] ∧
    [EngineState.disabled, .settle, .idle, .guard, .transmit, .turnaround, .await, .receive].map EngineState.code =
      [0, 1, 2, 3, 4, 5, 6, 7] ∧
    [RunState.stopped, .running].map RunState.code = [0, 1] ∧
    [Policy.onChange, .always, .statusOnly].map Policy.code = [0, 1, 2]) ∧
  ∀ (s : State) (l : Line) (a b : Byte),
    let answers (c : Instr) (record : List Byte) (t : State) : Prop :=
      exec c s = .next (State.drive { t with port := responding s.port .done record })
    (Collecting s .query [0, a] →
      answers (.queryPool b)
        [byteOf s.pool.free.length, byteOf s.pool.leastFree, byteOf s.pool.hostReserve]
        { s with pool := { s.pool with leastFree := s.pool.free.length } }) ∧
    (∀ n : SlotNo, Collecting s .query [1, byteOf n.val] →
      let x := s.slot n
      answers (.querySlot b)
        [x.state.code, x.origin.code, x.cls.code, byteOf x.line.val, byteOf x.station.val, x.tag, byteOf x.retryLimit,
         byteOf x.attempts, byteOf x.requestLength, byteOf x.replyRoom,
         (match x.replyLength with
          | none => 255
          | some k => byteOf k),
         (match x.lastFailure with
          | none => 0
          | some f => f.code),
         flagByte x.requestSent,
         (match x.cancelPending with
          | none => 0
          | some o => o.code),
         (match x.outcome with
          | none => 0
          | some o => o.code),
         lowByte x.doneTime, highByte x.doneTime] s) ∧
    (Collecting s .query [2, byteOf l.val] →
      let e := s.engine l
      let p := s.sched l
      answers (.queryLine b)
        [e.mode.code,
         (match e.drainKind with
          | none => 0
          | some k => k.code),
         e.state.code,
         (match e.active with
          | none => 255
          | some n => byteOf n.val),
         byteOf e.queue.length, lowByte (BitVec.ofNat 16 e.config.divisor), highByte (BitVec.ofNat 16 e.config.divisor),
         byteOf e.config.turnaroundHold, byteOf e.config.replyTimeout, byteOf e.config.gapLimit,
         byteOf e.config.settleGap, byteOf e.config.offlineThreshold, byteOf e.config.probeInterval, p.run.code,
         lowByte (BitVec.ofNat 16 p.period), highByte (BitVec.ofNat 16 p.period), lowByte p.cycleNumber,
         highByte p.cycleNumber, byteOf p.deferrals]
        { s with scheds := s.scheds.put l { p with deferrals := 0 } }) ∧
    (∀ n : StationAddr, n ≠ 0 → Collecting s .query [3, byteOf l.val] →
      let x := s.station l n
      answers (.queryStation (byteOf n.val))
        [byteOf x.failureCount, flagByte x.replied, x.sync.code, flagByte x.toggle,
         if (s.engine l).config.offlineThreshold ≤ x.failureCount then 3
         else if 0 < x.failureCount then 2
         else if x.replied then 1
         else 0] s) ∧
    (Collecting s .query [4, byteOf l.val] →
      let m := (s.stationLine l).changes
      answers (.queryChanges b)
        [m.extractLsb' 0 8, m.extractLsb' 8 8, m.extractLsb' 16 8, m.extractLsb' 24 8]
        { s with stations := s.stations.put l { s.stationLine l with changes := 0 } }) ∧
    (∀ n : EntryNo, Collecting s .query [5, byteOf l.val] →
      let x := s.entry l n
      answers (.queryEntry (byteOf n.val))
        [byteOf x.definition.station.val, x.definition.item, byteOf x.definition.replyRoom, x.definition.policy.code,
         byteOf x.definition.retryLimit, flagByte x.definition.enabled, flagByte x.digest.isSome,
         (match x.digest with
          | none => 0
          | some d => lowByte d),
         (match x.digest with
          | none => 0
          | some d => highByte d),
         (match x.live with
          | none => 255
          | some k => byteOf k.val)] s)

/-- R134, R159, R132, R48: an accepted QUEUE_SET sets the high mark, the low mark, the trigger and the host reserve, and the
hold state is evaluated with the new marks: HELD at or above the high mark, FREE-RUNNING at or below the low mark, kept in
between. No record changes; the response is DONE. -/
def Obligations.QueueSetEvaluatesTheHoldState : Prop :=
  ∀ (s : State) (high low trigger reserve : Nat), 1 ≤ high → high ≤ 16 → low < high → 1 ≤ trigger → trigger ≤ 16 →
    reserve ≤ 64 → Collecting s .queueSet [byteOf high, byteOf low, byteOf trigger] →
    exec (.queueSet (byteOf reserve)) s = .next (State.drive
      { s with queue := { s.queue with highMark := high, lowMark := low, trigger := trigger,
                                       hold := if high ≤ s.queue.records.length then .held
                                               else if s.queue.records.length ≤ low then .freeRunning
                                               else s.queue.hold },
               pool := { s.pool with hostReserve := reserve },
               port := responding s.port .done [] })

/-! ### The Completion Queue's readout (chapter 7) -/

/-- R125, R126, R127, section 11.6: with a header byte due, a read of RESULT drives byte p + 1 of the head record's header,
p being the header position. Before the tenth byte the position rises by 1 and nothing else changes. The tenth byte retires
a record of reply length 0 or absent; otherwise the position stays at 10 and OUTFLOW is raised for the reply length, owner at
once when the Data Port is free and waiting otherwise. -/
def Obligations.HeaderIsReadByteByByte : Prop :=
  ∀ (s : State) (r : Record) (rest : List Record) (p : Fin 10), s.inReset = false → s.queue.records = r :: rest →
    s.queue.headerPos = p.val →
    let x := s.slot r.slot
    let length := x.replyLength.getD 0
    let header : List Byte :=
      [(match r.kind with
        | .transaction => 0
        | .pollReport => 1),
       byteOf r.slot.val, x.tag,
       byteOf (x.line.val + 64 *
         (match r.derived with
          | .unknown => 0
          | .online => 1
          | .suspect => 2
          | .offline => 3)),
       byteOf x.station.val,
       (match x.outcome with
        | none => 0
        | some o => o.code),
       byteOf x.attempts, byteOf length, lowByte x.doneTime, highByte x.doneTime]
    let raised : DataPort := { s.data with outflow := some { total := length, slot := r.slot } }
    exec .resultRead s = .next (State.drive
      (if p.val < 9 then
        { s with dataBus := header.getD p.val 0, queue := { s.queue with headerPos := p.val + 1 } }
      else if length = 0 then
        { s.retireHead with dataBus := header.getD 9 0 }
      else
        { s with dataBus := header.getD 9 0, queue := { s.queue with headerPos := 10 },
                 data := if s.data.owner = .none then
                           { raised with owner := .outflow, moved := 0, dmaUsed := false, halted := false }
                         else raised }))

/-- R128: with no header byte due (an empty list, or a head record whose header position is 10), a read of RESULT returns 0
and changes nothing; a write to RESULT changes nothing; and HEADER_AVAIL, bit 2 of MAIN STATUS, is set exactly while the list
is not empty and the head's header position is below 10. The other seven bits of MAIN STATUS (the first table of R183; a read
of it has no row, assumption log entry 21) are set exactly while their conditions hold: CMD_READY, RESP_VALID, PAYLOAD_AVAIL,
INTAKE_WANTS, LOST, EVENT and BUS_ENABLED; and the read changes nothing. -/
def Obligations.NoHeaderByteIsDue : Prop :=
  ∀ s : State, s.inReset = false →
    (s.queue.records = [] ∨ 10 ≤ s.queue.headerPos →
      exec .resultRead s = .next (State.drive { s with dataBus := 0 })) ∧
    (∀ b : Byte, exec (.ignoredWrite 2 b) s = .next s) ∧
    (let status := (s.readAt 1).1
     (status.getLsbD 0 = true ↔ s.port.state = .ready ∨ s.port.state = .collect) ∧
     (status.getLsbD 1 = true ↔ s.port.state = .respond) ∧
     (status.getLsbD 2 = true ↔ s.queue.records ≠ [] ∧ s.queue.headerPos < 10) ∧
     (status.getLsbD 3 = true ↔ s.data.owner = .outflow) ∧
     (status.getLsbD 4 = true ↔ s.data.owner = .intake) ∧
     (status.getLsbD 5 = true ↔ s.port.lost = true) ∧
     (status.getLsbD 6 = true ↔ SomethingUnmasked s) ∧
     (status.getLsbD 7 = true ↔ s.events.busEnable = true)) ∧
    (s.readAt 1).2 = s

/-- R43, R49, R20, R104, R132: the retirement of the head record takes it from the list with the header position at 0 and
the hold state evaluated, returns its slot's blocks to the tail of the free list, request chain first, writes the cleared
record, and makes a POLL slot's entry forget it if the entry still names it. No other slot, no other entry, nothing else of a
scheduler and no byte of memory changes. -/
def Obligations.RetirementFreesTheHeadSlot : Prop :=
  ∀ (s : State) (r : Record) (rest : List Record), s.queue.records = r :: rest →
    let x := s.slot r.slot
    let t := s.retireHead
    t.slot r.slot = Slot.cleared ∧ (∀ m : SlotNo, m ≠ r.slot → t.slot m = s.slot m) ∧
    t.pool = { s.pool with free := s.pool.free ++ x.requestChain ++ x.replyChain } ∧
    t.queue = { s.queue with records := rest, headerPos := 0,
                             hold := if s.queue.highMark ≤ rest.length then .held
                                     else if rest.length ≤ s.queue.lowMark then .freeRunning
                                     else s.queue.hold } ∧
    (∀ (l : Line) (e : EntryNo), t.entry l e =
      if x.origin = .poll ∧ l = x.line ∧ e.val = x.tag.toNat % 16 ∧ (s.entry l e).live = some r.slot then
        { s.entry l e with live := none }
      else s.entry l e) ∧
    (∀ l : Line, t.sched l = { s.sched l with entries := (t.sched l).entries }) ∧
    t = { s with slots := t.slots, pool := t.pool, queue := t.queue, scheds := t.scheds }

/-! ### The Data Port (chapter 9) -/

/-- R166, R168, R169, R170, R27, R28, R143, R165: a byte for an INTAKE owner, by a write to DATA or by a DMA acknowledge
with a write strobe, is written at the moved count of the LOADING slot's request chain, and the moved count rises. If that
makes it the total, the slot becomes QUEUED at the tail of its class, ACCEPTED is posted with its number and the port is
released; a terminal count before the total frees the slot and posts SHORT_PAYLOAD. DMA_END is raised by a terminal count, and
by an end by length of a transfer that moved a byte by DMA. With any other owner the byte is dropped and LOST is set. R45,
R50, R51: memory then reads that byte at the address of that place in the chain, and at every other address what it read
before. That a port released with no request waiting has the moved count at 0 and DMA used and outflow halted clear is the
model's reading (assumption log entry 15). -/
def Obligations.IntakeMovesAByteIn : Prop :=
  (∀ (s : State) (b : Byte) (viaDma tc : Bool), s.inReset = false → (viaDma = false → tc = false) →
    let c : Instr := if viaDma then .dmaWriteAck b tc else .dataWrite b
    (s.data.owner ≠ .intake →
      exec c s = .next (State.drive { s with port := { s.port with lost := true } })) ∧
    ∀ (n : SlotNo) (q : IntakeRequest), s.data.owner = .intake → s.data.intake = some q → s.port.loading = some n →
      s.data.moved < q.total →
      let moved : State :=
        { s.putChainByte (s.slot n).requestChain s.data.moved b with
          data := { s.data with moved := s.data.moved + 1, dmaUsed := s.data.dmaUsed || viaDma } }
      let released : DataPort :=
        { s.data with intake := none, owner := if s.data.outflow = none then .none else .outflow, moved := 0,
                      dmaUsed := false, halted := false }
      let ended (dmaEnd : Bool) (t : State) : State :=
        { t with data := released, events := { s.events with dmaEnd := s.events.dmaEnd || dmaEnd } }
      exec c s = .next (State.drive
        (if s.data.moved + 1 = q.total then
          ended (tc || s.data.dmaUsed || viaDma)
            { moved.joinTail n with port := responding s.port .accepted [byteOf n.val] }
        else if tc then
          ended true { moved.freeSlot n with port := responding s.port .shortPayload [] }
        else moved))) ∧
  ∀ (s t : State) (b : Byte) (viaDma tc : Bool) (n : SlotNo) (a : Nat), s.inReset = false →
    Memory.wf s.pool.mem = true → s.data.owner = .intake → s.data.intake ≠ none → s.port.loading = some n →
    exec (if viaDma then .dmaWriteAck b tc else .dataWrite b) s = .next t →
    Memory.read t.pool.mem a =
      if chainAddress (s.slot n).requestChain s.data.moved = some a then b else Memory.read s.pool.mem a

/-- R166, R168, R169, R171, R129, R165: a read by an OUTFLOW owner, of DATA or by a DMA acknowledge with a read strobe,
drives payload byte number moved count of the reply chain, and the moved count rises. If that makes it the total, the record
retires and the port is released; a terminal count before the total sets outflow halted, clears DMA used and leaves OUTFLOW
the owner. DMA_END is raised as for an intake. With any other owner the read drives 0 and changes nothing. That a port
released with no request waiting has the moved count at 0 and DMA used and outflow halted clear is the model's reading
(assumption log entry 15). -/
def Obligations.OutflowMovesAByteOut : Prop :=
  ∀ (s : State) (viaDma tc : Bool), s.inReset = false → (viaDma = false → tc = false) →
    let c : Instr := if viaDma then .dmaReadAck tc else .dataRead
    (s.data.owner ≠ .outflow → exec c s = .next (State.drive { s with dataBus := 0 })) ∧
    ∀ q : OutflowRequest, s.data.owner = .outflow → s.data.outflow = some q → s.data.moved < q.total →
      let byte := s.chainByte (s.slot q.slot).replyChain s.data.moved
      let moved : DataPort := { s.data with moved := s.data.moved + 1, dmaUsed := s.data.dmaUsed || viaDma }
      let released : DataPort :=
        { s.data with outflow := none, owner := if s.data.intake = none then .none else .intake, moved := 0,
                      dmaUsed := false, halted := false }
      exec c s = .next (State.drive
        (if s.data.moved + 1 = q.total then
          { s.retireHead with
            data := released, dataBus := byte,
            events := { s.events with dmaEnd := s.events.dmaEnd || (tc || s.data.dmaUsed || viaDma) } }
        else if tc then
          { s with data := { moved with halted := true, dmaUsed := false }, dataBus := byte,
                   events := { s.events with dmaEnd := true } }
        else { s with data := moved, dataBus := byte }))

/-! ### The register window and the Event Unit (chapters 10 and 11) -/

/-- R142, R130, R172, R165, R49: ABORT_CMD posts ABORTED in COLLECT and in PAYLOAD, where it frees the LOADING slot, its
blocks going to the tail of the free list, and withdraws INTAKE; in READY and RESPOND it changes nothing. DISCARD_HEAD does
nothing on an empty list; otherwise it withdraws OUTFLOW if that was raised and retires the head record. A withdrawn owner
releases the port to the request that waits, and no DMA_END is raised. -/
def Obligations.AbortAndDiscardWithdraw : Prop :=
  ∀ s : State, s.inReset = false →
    (s.port.state = .ready ∨ s.port.state = .respond → exec .abortCmd s = .next (State.drive s)) ∧
    (s.port.state = .collect →
      exec .abortCmd s = .next (State.drive { s with port := responding s.port .aborted [] })) ∧
    (∀ n : SlotNo, s.port.state = .payload → s.port.loading = some n →
      exec .abortCmd s = .next (State.drive
        { s with
          slots := s.slots.put n Slot.cleared,
          pool := { s.pool with free := s.pool.free ++ (s.slot n).requestChain ++ (s.slot n).replyChain },
          port := responding s.port .aborted [],
          data := if s.data.owner = .intake then
                    { s.data with intake := none, owner := if s.data.outflow = none then .none else .outflow, moved := 0,
                                  dmaUsed := false, halted := false }
                  else { s.data with intake := none } })) ∧
    (s.queue.records = [] → exec .discardHead s = .next (State.drive s)) ∧
    (s.queue.records ≠ [] →
      exec .discardHead s = .next (State.drive
        { s.retireHead with
          data := if s.data.outflow ≠ none ∧ s.data.owner = .outflow then
                    { s.data with outflow := none, owner := if s.data.intake = none then .none else .intake, moved := 0,
                                  dmaUsed := false, halted := false }
                  else { s.data with outflow := none } }))

/-- R180, R167, R173, R176, R182: a write to CONTROL without SOFT_RESET gives BUS_ENABLE its bit 3 and RESULT_DMA its bit 4,
a 1 there also clearing outflow halted; one that carries SOFT_RESET leaves both off (the two rows carry the whole byte
written: assumption log entry 10). A write to EVENT MASK sets the six enables
from bits 0 to 5, which a read (without a row: assumption log entry 21) returns with bits 6 and 7 at 0. A write at an offset whose Write column says ignored changes
nothing. -/
def Obligations.WindowWritesSetTheirBits : Prop :=
  ∀ (s : State) (b : Byte), s.inReset = false →
    exec (.busEnable b) s = .next (State.drive
      { s with events := { s.events with busEnable := b.getLsbD 3 && !b.getLsbD 0 } }) ∧
    exec (.resultDma b) s = .next (State.drive
      { s with data := { s.data with resultDma := b.getLsbD 4 && !b.getLsbD 0,
                                     halted := s.data.halted && !b.getLsbD 4 } }) ∧
    (∃ t : State, exec (.eventMaskWrite b) s = .next t ∧
      (∀ n : Nat, n < 6 → t.events.mask.getLsbD n = b.getLsbD n) ∧
      (∀ n : Nat, (t.readAt 5).1.getLsbD n = (decide (n < 6) && b.getLsbD n)) ∧
      t = { s with events := { s.events with mask := t.events.mask }, pins := t.pins }) ∧
    ∀ offset : Fin 8, offset = 2 ∨ offset = 4 ∨ offset = 6 ∨ offset = 7 → exec (.ignoredWrite offset b) s = .next s

/-- R177, R178, section 11.6: a read of CAUSE reports the pending item whose kind is unmasked and stands highest in the table
of section 10.1, of the lowest line among those of its kind: 16 times the kind's code plus the line. It clears the item's
latch flag if the item is latched, and returns 0 and changes nothing when no item qualifies. A write to CAUSE is ignored. -/
def Obligations.CauseReportsTheHighestItem : Prop :=
  (∀ (s : State) (b : Byte), exec (.ignoredWrite 4 b) s = .next s) ∧
  ∀ s : State, s.inReset = false →
    let u := s.events
    let candidates : List (Bool × Byte × EventUnit) :=
      ((List.finRange 4).map fun l =>
        (u.mask.getLsbD 0 && u.stuck.look l, byteOf (0x10 + l.val), { u with stuck := u.stuck.put l false })) ++
      ((List.finRange 4).map fun l =>
        (u.mask.getLsbD 1 && decide ((s.stationLine l).changes ≠ 0), byteOf (0x20 + l.val), u)) ++
      ((List.finRange 4).map fun l =>
        (u.mask.getLsbD 2 && u.overrun.look l, byteOf (0x30 + l.val), { u with overrun := u.overrun.put l false })) ++
      [(u.mask.getLsbD 3 && decide (s.queue.trigger ≤ s.queue.records.length), 0x40, u),
       (u.mask.getLsbD 4 && u.dmaEnd, 0x50, { u with dmaEnd := false }),
       (u.mask.getLsbD 5 && decide (s.port.state = .respond), 0x60, u)]
    exec .causeRead s = .next (State.drive
      (match candidates.find? fun x => x.1 with
       | none => { s with dataBus := 0 }
       | some (_, b, v) => { s with dataBus := b, events := v }))

/-- R186, R107: a tick raises the tick counter by 1, from 65535 to 0, and with it the cycle timer of every RUNNING scheduler
that stands below 65535 (its behaviour at 65535 is the model's choice, assumption log entry 7). A read of TICK LOW returns
the low byte and copies the high byte to the latch, which a read of TICK HIGH returns. -/
def Obligations.TickAndItsLatch : Prop :=
  ∀ s : State, s.inReset = false →
    (∃ t : State, exec .tick s = .next t ∧ t.tick.toNat = (s.tick.toNat + 1) % 65536 ∧
      (∀ l : Line, (s.sched l).run = .stopped → t.sched l = s.sched l) ∧
      (∀ l : Line, (s.sched l).run = .running → (s.sched l).cycleTimer < 65535 →
        t.sched l = { s.sched l with cycleTimer := (s.sched l).cycleTimer + 1 }) ∧
      t = { s with tick := t.tick, scheds := t.scheds, pins := t.pins }) ∧
    ∃ t : State, exec .tickLowRead s = .next t ∧ t.dataBus.toNat = s.tick.toNat % 256 ∧
      (t.readAt 7).1.toNat = s.tick.toNat / 256 ∧
      t = { s with tickLatch := t.tickLatch, dataBus := t.dataBus, pins := t.pins }

/-! ### The Poll Scheduler (chapter 6) -/

/-- R105, R107, R108, R109, R132, R156: a cycle starts when a RUNNING scheduler's timer has reached its period, and within a
POLL_RUN taken on an ON line. It drops the claims left over, takes the cycle number, which then rises by 1, and returns the
timer to 0. Unless the Completion Queue is HELD, the due list holds, in index order, the enabled entries without a live slot
whose station is not OFFLINE or whose cycle is a probe cycle, and CYCLE_OVERRUN is raised for an enabled entry with a live
slot. No slot, block or record changes. That the timer's cycle starts with the command CYCLE_START and not within the tick,
and also with a timer past the period, is the model's choice (assumption log entry 7). -/
def Obligations.CycleStartJudgesItsEntries : Prop :=
  ∀ (s : State) (l : Line),
    let p := s.sched l
    let due (number : Word16) : List EntryNo :=
      (List.finRange 16).filter fun i =>
        (s.entry l i).definition.enabled && (s.entry l i).live.isNone &&
          (decide (s.derivedOf l (s.entry l i).definition.station ≠ .offline) ||
            decide (number.toNat % (s.engine l).config.probeInterval = 0))
    let overrun : Bool :=
      decide (s.queue.hold = .freeRunning ∧
        ∃ i : EntryNo, (s.entry l i).definition.enabled = true ∧ (s.entry l i).live ≠ none)
    let started (q : Scheduler) : State :=
      { s with scheds := s.scheds.put l
                 { q with due := if s.queue.hold = .held then [] else due q.cycleNumber,
                          cycleNumber := q.cycleNumber + 1, cycleTimer := 0 },
               events := { s.events with overrun := if overrun then s.events.overrun.put l true
                                                    else s.events.overrun } }
    (s.inReset = false → p.run = .running → p.period ≤ p.cycleTimer →
      exec (.cycleStart l) s = .next (State.drive (started p))) ∧
    ∀ period : Nat, 1 ≤ period → period ≤ 65535 →
      Collecting s .pollRun [byteOf l.val, lowByte (BitVec.ofNat 16 period)] → (s.engine l).mode = .on →
      exec (.pollRun (highByte (BitVec.ofNat 16 period))) s = .next (State.drive
        { started { p with period := period, run := .running,
                           cycleNumber := if p.run = .stopped then 0 else p.cycleNumber } with
          port := responding s.port .done [] })

/-- R111, R25, R23, R47, R48, R29, R112: the claim at the head of the due list of a RUNNING scheduler leaves the list. With
the entry no longer enabled nothing more happens. If after the creation at least 2 slots stay FREE and the free count stays
at or above the host reserve (and the blocks are there), the lowest FREE slot becomes a QUEUED POLL slot of the entry's
definition at the tail of class POLL, its request chain holding the item code, and becomes the entry's live slot. Otherwise
the deferral count rises by 1, to 255 at most, and no slot and no block changes. -/
def Obligations.ClaimCreatesAPollSlotOrDefers : Prop :=
  ∀ (s : State) (l : Line) (i : EntryNo) (rest : List EntryNo), s.inReset = false → (s.sched l).run = .running →
    (s.sched l).due = i :: rest →
    let d := (s.entry l i).definition
    let claimed : Scheduler := { s.sched l with due := rest }
    let freeSlots := ((List.finRange 16).filter fun n => decide ((s.slot n).state = .free)).length
    let reply := (d.replyRoom + 15) / 16
    let granted : Prop := 3 ≤ freeSlots ∧ s.pool.hostReserve + 1 + reply ≤ s.pool.free.length
    (d.enabled = false → exec (.pollClaim l) s = .next (State.drive { s with scheds := s.scheds.put l claimed })) ∧
    (d.enabled = true → ¬ granted →
      exec (.pollClaim l) s = .next (State.drive
        { s with scheds := s.scheds.put l { claimed with deferrals := min 255 ((s.sched l).deferrals + 1) } })) ∧
    ∀ n : SlotNo, d.enabled = true → granted → (s.slot n).state = .free → (∀ m : SlotNo, m < n → (s.slot m).state ≠ .free) →
      Memory.wf s.pool.mem = true →
      ∃ t : State, exec (.pollClaim l) s = .next t ∧
        t.slot n =
          { state := .queued, origin := .poll, line := l, station := d.station, cls := .poll, tag := byteOf i.val,
            retryLimit := d.retryLimit, attempts := 0, requestLength := 1, replyRoom := d.replyRoom,
            requestChain := s.pool.free.take 1, replyChain := (s.pool.free.drop 1).take reply, replyLength := none,
            lastFailure := none, requestSent := false, cancelPending := none, outcome := none, doneTime := 0 } ∧
        (∀ m : SlotNo, m ≠ n → t.slot m = s.slot m) ∧
        t.pool.free = s.pool.free.drop (1 + reply) ∧
        t.pool.leastFree = min s.pool.leastFree (s.pool.free.length - (1 + reply)) ∧
        (∀ a : Nat, Memory.read t.pool.mem a =
          if chainAddress (s.pool.free.take 1) 0 = some a then d.item else Memory.read s.pool.mem a) ∧
        t.engines = s.engines.put l { s.engine l with queue := (s.engine l).queue ++ [n] } ∧
        t.scheds = s.scheds.put l
          { claimed with entries := (s.sched l).entries.put i { s.entry l i with live := some n } } ∧
        t = { s with slots := t.slots,
                     pool := { s.pool with mem := t.pool.mem, free := t.pool.free, leastFree := t.pool.leastFree },
                     engines := t.engines, scheds := t.scheds, pins := t.pins }

/-! ### The Line Engine: sending (chapter 4) -/

/-- R67, R30: an IDLE engine of an ON line takes the head of its queue: the slot becomes ACTIVE, the phase is BROADCAST for
station 0, RESYNC for an UNSYNC station and REQUEST otherwise, and the engine enters GUARD with the lead timer started for 2
bit times. An engine in another state or mode, or with an empty queue, takes nothing: that a TAKE commanded there leaves the
state as it is is the model's choice (assumption log entry 3). R69, R31, R6, R11: the end of the lead
time in GUARD begins the first character of the frame: the address of the slot's station with marker 1, fed into a check
register that starts at 0xFFFF, with the station's expected toggle read for the REQUEST. An attempt is counted unless resynced
is set. -/
def Obligations.TakeAndLeadTimeBeginTheFrame : Prop :=
  ((∀ (s : State) (l : Line) (n : SlotNo) (rest : List SlotNo), s.inReset = false → (s.engine l).state = .idle →
    (s.engine l).mode = .on → (s.engine l).queue = n :: rest → (s.slot n).line = l →
    let phase : Phase :=
      if (s.slot n).station = 0 then .broadcast
      else if (s.station l (s.slot n).station).sync = .unsync then .resync
      else .request
    exec (.take l) s = .next (State.drive
      { s with slots := s.slots.put n { s.slot n with state := .active },
               engines := s.engines.put l
                 { s.engine l with queue := rest, active := some n, phase := some phase, resynced := false,
                                   state := .guard, leadTimer := some 2, stuckTimer := none } })) ∧
  ∀ (s : State) (l : Line), s.inReset = false →
    (s.engine l).state ≠ .idle ∨ (s.engine l).mode ≠ .on ∨ (s.engine l).queue = [] →
    exec (.take l) s = .next (State.drive s)) ∧
  ∀ (s : State) (l : Line) (n : SlotNo) (p : Phase), s.inReset = false → (s.engine l).state = .guard →
    (s.engine l).leadTimer ≠ none → (s.engine l).active = some n → (s.engine l).phase = some p →
    let x := s.slot n
    let address := byteOf x.station.val
    exec (.leadTimerExpiry l) s = .next (State.drive
      { s with slots := if (s.engine l).resynced then s.slots
                        else s.slots.put n { x with attempts := x.attempts + 1 },
               engines := s.engines.put l { s.engine l with state := .transmit, leadTimer := none },
               links := s.links.put l
                 { s.link l with transmitter := .sending address true 1 [], check := crcByte 0xFFFF address,
                                 sendCount := 1, sentToggle := (s.station l x.station).toggle } })

/-- R70, R32, R82, R61: space heard in GUARD stops the lead timer and the quiet time returns to zero. With resynced clear the
slot is QUEUED at the head of its class with its other fields unchanged, and the engine enters SETTLE with no slot; with
resynced set it enters SETTLE holding the slot. R5: outside GUARD, on a line that is not ABSENT, space heard returns the
quiet time to zero and nothing else changes: that the command GUARD_SPACE_HEARD says so there is the model's choice
(assumption log entry 29). -/
def Obligations.SpaceInGuardDefers : Prop :=
  (∀ (s : State) (l : Line), s.inReset = false → (s.engine l).state ≠ .guard → (s.engine l).mode ≠ .absent →
    exec (.guardSpaceHeard l) s = .next (State.drive
      { s with links := s.links.put l { s.link l with quietTime := 0 } })) ∧
  ∀ (s : State) (l : Line) (n : SlotNo), s.inReset = false → (s.engine l).state = .guard →
    (s.engine l).active = some n → (s.slot n).line = l →
    let e := s.engine l
    let links := s.links.put l { s.link l with quietTime := 0 }
    let ahead := e.queue.takeWhile fun m => decide ((s.slot m).cls.rank < (s.slot n).cls.rank)
    let behind := e.queue.dropWhile fun m => decide ((s.slot m).cls.rank < (s.slot n).cls.rank)
    (e.resynced = false →
      exec (.guardSpaceHeard l) s = .next (State.drive
        { s with slots := s.slots.put n { s.slot n with state := .queued },
                 engines := s.engines.put l (entersSettle
                   { e with leadTimer := none, active := none, phase := none, queue := ahead ++ n :: behind } 0),
                 links := links })) ∧
    (e.resynced = true →
      exec (.guardSpaceHeard l) s = .next (State.drive
        { s with engines := s.engines.put l (entersSettle { e with leadTimer := none } 0), links := links }))

/-- R71, R6, R2, R4, R11, R52, section 11.4: a character of a frame that ends with a good echo, with more to send, begins
the next one at once: control (kind and toggle), length, payload byte by byte from the request chain, then the check's high
and low bytes, each with marker 0; every character before the check is fed into the check register. The quiet time is the mark
at the end of the character that ended, by its read-back (R5, assumption log entry 5). Nothing else changes. -/
def Obligations.GoodEchoBeginsTheNextCharacter : Prop :=
  ∀ (s : State) (l : Line) (n : SlotNo) (p : Phase) (data : Byte) (marker : Bool) (pos : Nat) (heard : List Bool)
    (k : Nat), s.inReset = false → (s.engine l).state = .transmit → (s.engine l).active = some n →
    (s.engine l).phase = some p → (s.link l).transmitter = .sending data marker pos heard → (s.link l).sendCount = k →
    1 ≤ k →
    let x := s.slot n
    let length := if p = .resync then 0 else x.requestLength
    k < 5 + length →
    let check := (s.link l).check
    let control : Byte :=
      match p with
      | .resync => 0x04
      | .request => if (s.link l).sentToggle then 0x81 else 0x01
      | .broadcast => 0x06
    let next : Byte :=
      if k = 1 then control
      else if k = 2 then byteOf length
      else if k < 3 + length then s.chainByte x.requestChain (k - 3)
      else if k = 3 + length then highByte check
      else lowByte check
    exec (.characterSent l (wireBits data marker)) s = .next (State.drive
      { s with links := s.links.put l
                 { s.link l with transmitter := .sending next false 1 [],
                                 check := if k < 3 + length then crcByte check next else check,
                                 sendCount := k + 1, quietTime := quietMarks 11 (wireBits data marker) } })

/-- R71, R73, R6, R4: a good echo on the last check character ends the frame: request sent is set for a REQUEST frame, the
receiver is armed again and the engine enters TURNAROUND with the hold timer started for the line's turnaround hold. With a
hold of 0 the hold ends within the same happening: the next state is the one that HOLD_TIMER_EXPIRY would then give. R72,
R85, R79, R32: an echo mismatch stops the frame with no further character. With cancel pending clear the attempt fails with
COLLISION (`State.retry`, see `Obligations.FailedAttemptIsRetriedOrEnds`) and no station record changes; with cancel pending
set the slot completes with the pending outcome and no failure is recorded. The engine enters SETTLE with no slot. The quiet
time at the end of the last stop bit is read from the read-back (R5, assumption log entry 5). -/
def Obligations.LastEchoOrMismatchEndsTheFrame : Prop :=
  (∀ (s : State) (l : Line) (n : SlotNo) (p : Phase) (data : Byte) (marker : Bool) (pos : Nat) (heard : List Bool),
    s.inReset = false → (s.engine l).state = .transmit → (s.engine l).active = some n →
    (s.engine l).phase = some p → (s.link l).transmitter = .sending data marker pos heard →
    5 + (if p = .resync then 0 else (s.slot n).requestLength) ≤ (s.link l).sendCount →
    let hold := (s.engine l).config.turnaroundHold
    let t : State := State.drive
      { s with slots := if p = .request then s.slots.put n { s.slot n with requestSent := true } else s.slots,
               engines := s.engines.put l { s.engine l with state := .turnaround, holdTimer := some hold },
               links := s.links.put l
                 { s.link l with transmitter := .idle, sendCount := 0, receiver := .armed,
                                 quietTime := quietMarks 11 (wireBits data marker) } }
    (0 < hold → exec (.characterSent l (wireBits data marker)) s = .next t) ∧
    (hold = 0 → exec (.characterSent l (wireBits data marker)) s = exec (.holdTimerExpiry l) t)) ∧
  ∀ (s : State) (l : Line) (n : SlotNo) (p : Phase) (data : Byte) (marker : Bool) (pos : Nat) (heard : List Bool)
    (readBack : BitVec 11), s.inReset = false → (s.engine l).state = .transmit → (s.engine l).active = some n →
    (s.engine l).phase = some p → (s.link l).transmitter = .sending data marker pos heard →
    readBack ≠ wireBits data marker →
    let t : State := released l
      { s with links := s.links.put l
                 { s.link l with transmitter := .idle, sendCount := 0, receiver := .armed,
                                 quietTime := if readBack = BitVec.allOnes 11 then (s.link l).quietTime + 11
                                              else quietMarks 11 readBack } }
    ((s.slot n).cancelPending = none →
      exec (.characterSent l readBack) s = .next (State.drive (settling l (t.retry n .collision)))) ∧
    ∀ o : PendingOutcome, (s.slot n).cancelPending = some o →
      exec (.characterSent l readBack) s = .next (State.drive (settling l (t.complete n o.outcome)))

/-- R73, R85, R17, R75: the end of the turnaround hold releases the driver. With cancel pending set the slot completes with
the pending outcome; otherwise a broadcast completes SENT, and any other phase enters AWAIT with the reply timer started for
11 times the reply timeout. -/
def Obligations.HoldEndEntersAwaitOrCompletes : Prop :=
  ∀ (s : State) (l : Line) (n : SlotNo), s.inReset = false → (s.engine l).state = .turnaround →
    (s.engine l).holdTimer ≠ none → (s.engine l).active = some n →
    let e : Engine := { s.engine l with holdTimer := none }
    let completed (o : TransactionOutcome) : State :=
      settling l
        (({ s with engines := s.engines.put l { e with active := none, phase := none, resynced := false } }).complete n o)
    (∀ o : PendingOutcome, (s.slot n).cancelPending = some o →
      exec (.holdTimerExpiry l) s = .next (State.drive (completed o.outcome))) ∧
    ((s.slot n).cancelPending = none → e.phase = some .broadcast →
      exec (.holdTimerExpiry l) s = .next (State.drive (completed .sent))) ∧
    ((s.slot n).cancelPending = none → e.phase ≠ some .broadcast →
      exec (.holdTimerExpiry l) s = .next (State.drive
        { s with engines := s.engines.put l
                   { e with state := .await, replyTimer := some (e.config.replyTimeout * 11) } }))

/-! ### The Line Engine: waiting and receiving (chapter 4) -/

/-- R75, R77, R79, R89, R95, R32: the reply timer running out in AWAIT gives SILENCE, and the gap passing the gap limit in
RECEIVE gives GARBLED. With cancel pending clear, each counts one more failure against the slot's station (15 at most,
joining the change set as R95 says), fails the attempt, and the engine enters SETTLE with no slot. That the gap holds the gap
limit afterwards is the model's choice (assumption log entry 5). -/
def Obligations.SilenceAndGapFailTheAttempt : Prop :=
  ∀ (s : State) (l : Line) (n : SlotNo), s.inReset = false → (s.engine l).active = some n →
    (s.slot n).cancelPending = none → (s.engine l).phase ≠ some .broadcast →
    let failed (t : State) (f : Failure) : State :=
      settling l ((released l (t.updateStation l (s.slot n).station fun x =>
        { x with failureCount := min 15 (x.failureCount + 1) })).retry n f)
    ((s.engine l).state = .await → (s.engine l).replyTimer ≠ none →
      exec (.replyTimeout l) s = .next (State.drive (failed s .silence))) ∧
    ((s.engine l).state = .receive → (s.engine l).gapWatch = true →
      exec (.gapLimitExpiry l) s = .next (State.drive
        (failed { s with links := s.links.put l { s.link l with gap := (s.engine l).config.gapLimit } } .garbled)))

/-- R3, R5, R74, R75, R77, R19: a start bit confirmed by an armed receiver of a line that is not ABSENT, while the
transmitter is idle, begins a character and returns the quiet time to zero. In AWAIT it stops the reply timer and begins a
reception in RECEIVE with the check register at 0xFFFF and nothing counted; in RECEIVE it ends the gap; in every other state
the engine does not use it. A character delivered outside RECEIVE is ignored: it acts on the receiver, the quiet time and the
gap alone. A receiver that waits for mark is armed again when the input reads mark. That an armed receiver also delivers a
character is the model's choice (assumption log entry 9); the quiet time at a delivery is read from the samples (assumption
log entry 5). -/
def Obligations.StartBitBeginsAReception : Prop :=
  ∀ (s : State) (l : Line), s.inReset = false → (s.engine l).mode ≠ .absent →
    let e := s.engine l
    let k := s.link l
    (k.transmitter = .idle → k.receiver = .armed →
      exec (.startBitTaken l) s = .next (State.drive
        (match e.state with
         | .await =>
           { s with engines := s.engines.put l { e with state := .receive, replyTimer := none, gapWatch := false },
                    links := s.links.put l { k with receiver := .assembling [], quietTime := 0, check := 0xFFFF,
                                                    charCount := 0, stored := 0 } }
         | .receive =>
           { s with engines := s.engines.put l { e with gapWatch := false },
                    links := s.links.put l { k with receiver := .assembling [], quietTime := 0 } }
         | _ => { s with links := s.links.put l { k with receiver := .assembling [], quietTime := 0 } }))) ∧
    (∀ samples : BitVec 10, k.transmitter = .idle → k.receiver ≠ .waitMark → e.state ≠ .receive →
      exec (.characterReceived l samples) s = .next (State.drive
        { s with links := s.links.put l
                   { k with receiver := if samples.getLsbD 9 then .armed else .waitMark, quietTime := quietMarks 10 samples,
                            gap := if samples.getLsbD 9 then 0 else k.gap } })) ∧
    (k.receiver = .waitMark →
      exec (.receiverReArm l) s = .next (State.drive
        { s with links := s.links.put l { k with receiver := .armed } }))

/-- R76 steps 1 to 3, R7, R3, R79, R89: in RECEIVE a character with a broken stop, a first character with marker 0 or a later
one with marker 1, or a first character whose direction is not "from station" or whose unused bits are not zero, is GARBLED,
and counts one more failure against the station; a first character with another station address is WRONG_STATION, and changes
no station record. With cancel pending clear the attempt fails with that and the engine enters SETTLE with no slot. That an
armed receiver also delivers a character is the model's choice (assumption log entry 9); the quiet time at a delivery is read
from the samples (assumption log entry 5). -/
def Obligations.BadCharacterFailsTheAttempt : Prop :=
  ∀ (s : State) (l : Line) (n : SlotNo) (p : Phase) (data : Byte) (marker stop : Bool), s.inReset = false →
    (s.engine l).mode ≠ .absent → (s.engine l).state = .receive → (s.engine l).active = some n →
    (s.engine l).phase = some p → p ≠ .broadcast → (s.slot n).cancelPending = none →
    (s.link l).transmitter = .idle → (s.link l).receiver ≠ .waitMark →
    let samples : BitVec 10 := BitVec.ofBool stop ++ BitVec.ofBool marker ++ data
    let first : Prop := (s.link l).charCount = 0
    let garbled : Prop := stop = false ∨ (first ∧ marker = false) ∨ (¬ first ∧ marker = true) ∨
      (first ∧ (data.getLsbD 7 = false ∨ data.getLsbD 6 = true ∨ data.getLsbD 5 = true))
    let heard : State :=
      { s with links := s.links.put l
                 { s.link l with receiver := if stop then .armed else .waitMark, quietTime := quietMarks 10 samples,
                                 gap := if stop then 0 else (s.link l).gap } }
    (garbled →
      exec (.characterReceived l samples) s = .next (State.drive
        (settling l ((released l (heard.updateStation l (s.slot n).station fun x =>
          { x with failureCount := min 15 (x.failureCount + 1) })).retry n .garbled)))) ∧
    (¬ garbled → first → data.toNat % 32 ≠ (s.slot n).station.val →
      exec (.characterReceived l samples) s = .next (State.drive
        (settling l ((released l heard).retry n .wrongStation))))

/-- R76 step 4, R7, R8, R9, R10, R11, R53: a character of the reply before its second check character, with a sound stop and
the right marker (1 on the first alone), is taken: a good address, the control and the length are fed into the check
register, and control and length are kept, each payload character is fed and, in phase REQUEST while room remains, stored at
the next position of the reply chain, the first check character is kept unfed; the count rises and the gap is watched. No
other byte of memory and nothing else changes. That an armed receiver also delivers a character is the model's choice
(assumption log entry 9); the quiet time at a delivery is read from the samples (assumption log entry 5). -/
def Obligations.ReplyCharacterIsTaken : Prop :=
  ∀ (s : State) (l : Line) (n : SlotNo) (p : Phase) (data : Byte) (c : Nat), s.inReset = false →
    (s.engine l).mode ≠ .absent → (s.engine l).state = .receive → (s.engine l).active = some n →
    (s.engine l).phase = some p → (s.link l).transmitter = .idle → (s.link l).receiver ≠ .waitMark →
    Memory.wf s.pool.mem = true →
    let k := s.link l
    let length := k.length.toNat
    k.charCount + 1 = c → (c = 1 → data.toNat = 128 + (s.slot n).station.val) → (3 < c → c ≤ 4 + length) →
    let samples : BitVec 10 := BitVec.ofBool true ++ BitVec.ofBool (decide (c = 1)) ++ data
    let payload : Prop := 4 ≤ c ∧ c ≤ 3 + length
    let storing : Prop := payload ∧ p = .request ∧ k.stored < (s.slot n).replyRoom
    ∃ t : State, exec (.characterReceived l samples) s = .next t ∧
      t.links = s.links.put l
        { k with receiver := .armed, quietTime := quietMarks 10 samples, gap := 0, charCount := c,
                 check := if c ≤ 3 ∨ payload then crcByte k.check data else k.check,
                 control := if c = 2 then data else k.control,
                 length := if c = 3 then data else k.length,
                 checkHigh := if 4 ≤ c ∧ c = 4 + length then data else k.checkHigh,
                 stored := if storing then k.stored + 1 else k.stored } ∧
      t.engines = s.engines.put l { s.engine l with gapWatch := true } ∧
      (∀ a : Nat, Memory.read t.pool.mem a =
        if storing ∧ chainAddress (s.slot n).replyChain k.stored = some a then data else Memory.read s.pool.mem a) ∧
      t = { s with links := t.links, engines := t.engines, pool := { s.pool with mem := t.pool.mem }, pins := t.pins }

/-- R13, R78: the judgement of a complete reply, in its order. A bad check is GARBLED; so is a good check on unused control
bits that are not zero, a kind that the phase does not allow, a REPLY longer than 240, a BUSY or RESYNC_ACK that is not
empty, or a RESYNC_ACK with toggle 1. Then, in phase REQUEST, a REPLY longer than the room is REPLY_TOO_LONG whatever its
toggle, and one whose toggle is not the one sent is STALE. What remains is good, or BUSY. -/
def Obligations.FrameIsJudgedInOrder : Prop :=
  ∀ (p : Phase) (checkGood : Bool) (control : Byte) (length room : Nat) (sent : Bool), p ≠ .broadcast →
    let kind := control.toNat % 16
    let unused := control.toNat / 16 % 8
    let toggle := decide (128 ≤ control.toNat)
    let v := judgeFrame p checkGood control length room sent
    let fits : Prop := checkGood = true ∧ unused = 0
    (v = .goodReply ↔ fits ∧ p = .request ∧ kind = 2 ∧ length ≤ 240 ∧ length ≤ room ∧ toggle = sent) ∧
    (v = .replyTooLong ↔ fits ∧ p = .request ∧ kind = 2 ∧ length ≤ 240 ∧ room < length) ∧
    (v = .failed .stale ↔ fits ∧ p = .request ∧ kind = 2 ∧ length ≤ 240 ∧ length ≤ room ∧ toggle ≠ sent) ∧
    (v = .failed .busy ↔ fits ∧ kind = 3 ∧ length = 0) ∧
    (v = .goodAck ↔ fits ∧ p = .resync ∧ kind = 5 ∧ length = 0 ∧ toggle = false) ∧
    (v = .failed .garbled ↔
      ¬ (fits ∧ ((p = .request ∧ kind = 2 ∧ length ≤ 240) ∨ (kind = 3 ∧ length = 0) ∨
                 (p = .resync ∧ kind = 5 ∧ length = 0 ∧ toggle = false))))

/-- R76 step 5, R11, R78, R79, R80, R81, R33, R89: the second check character, with a sound stop and marker 0, completes the
reply: the check is good when the two check characters, high byte first, equal the register, and `judgeFrame` gives the
verdict. With cancel pending clear, the Station Table takes the verdict first; a good REPLY and REPLY_TOO_LONG set the reply
length to the bytes stored and complete the slot, a good RESYNC_ACK keeps it in phase REQUEST with resynced set, any other
verdict fails the attempt; the engine enters SETTLE. That an armed receiver also delivers a character is the model's choice
(assumption log entry 9); the quiet time at a delivery is read from the samples (assumption log entry 5). -/
def Obligations.CompleteReplyReachesItsVerdict : Prop :=
  ∀ (s : State) (l : Line) (n : SlotNo) (p : Phase) (data : Byte), s.inReset = false → (s.engine l).mode ≠ .absent →
    (s.engine l).state = .receive → (s.engine l).active = some n → (s.engine l).phase = some p → p ≠ .broadcast →
    (s.slot n).cancelPending = none → (s.link l).transmitter = .idle → (s.link l).receiver ≠ .waitMark →
    let k := s.link l
    let x := s.slot n
    3 < k.charCount → 4 + k.length.toNat ≤ k.charCount →
    let v := judgeFrame p (decide (k.check.toNat = k.checkHigh.toNat * 256 + data.toNat)) k.control k.length.toNat
      x.replyRoom k.sentToggle
    let t : State :=
      ({ s with links := s.links.put l { k with receiver := .armed, quietTime := 1, gap := 0,
                                                charCount := k.charCount + 1 } }).updateStation l x.station
        fun r => r.afterVerdict v
    let stored : State := released l { t with slots := t.slots.put n { x with replyLength := some k.stored } }
    exec (.characterReceived l (BitVec.ofBool true ++ BitVec.ofBool false ++ data)) s = .next (State.drive
      (match v with
       | .goodReply => settling l (stored.complete n .ok)
       | .replyTooLong => settling l (stored.complete n .replyTooLong)
       | .goodAck =>
         { t with engines := t.engines.put l (entersSettle
             { s.engine l with phase := some .request, resynced := true, replyTimer := none, gapWatch := false } 1) }
       | .failed f => settling l ((released l t).retry n f)))

/-- R82, R80, R83: the quiet time reaching the settle gap ends SETTLE: an engine that holds a slot enters GUARD with the lead
timer started, one that holds none on an ON line enters IDLE, and the stuck timer stops. The stuck timer running out in
SETTLE raises LINE_STUCK once for the entry, sets stuck raised and starts again for 704 bit times. The quiet time holds the
settle gap afterwards, if it was below it. R5: outside SETTLE, on a line that is not ABSENT, that is all that the quiet
time's reaching the settle gap does; that the command SETTLE_QUIET says so there is the model's choice (assumption log entry
29). -/
def Obligations.SettleEndsOrIsStuck : Prop :=
  ∀ (s : State) (l : Line), s.inReset = false →
    let e := s.engine l
    let links := s.links.put l { s.link l with quietTime := max (s.link l).quietTime e.config.settleGap }
    (e.mode ≠ .absent → e.state ≠ .settle → exec (.settleQuiet l) s = .next (State.drive { s with links := links })) ∧
    (e.mode ≠ .absent → e.state = .settle → e.active ≠ none →
      exec (.settleQuiet l) s = .next (State.drive
        { s with links := links,
                 engines := s.engines.put l { e with state := .guard, leadTimer := some 2, stuckTimer := none } })) ∧
    (e.state = .settle → e.active = none → e.mode = .on →
      exec (.settleQuiet l) s = .next (State.drive
        { s with links := links, engines := s.engines.put l { e with state := .idle, stuckTimer := none } })) ∧
    (e.state = .settle → e.stuckTimer ≠ none →
      exec (.stuckTimerExpiry l) s = .next (State.drive
        { s with engines := s.engines.put l { e with stuckRaised := true, stuckTimer := some 704 },
                 events := if e.stuckRaised then s.events
                           else { s.events with stuck := s.events.stuck.put l true } }))

/-- R84, R85, R86, R61: what the engine does when a cancel with an outcome reaches its active slot. In GUARD the lead timer
stops, in AWAIT the reply timer, in RECEIVE the gap watch; the slot completes with the outcome and the engine enters SETTLE
with no slot. In SETTLE the slot completes and the engine stays there with its stuck timer, or is OFF when the line drains.
In TRANSMIT and TURNAROUND nothing happens yet. -/
def Obligations.CancelEndsTheActiveSlot : Prop :=
  ∀ (s : State) (l : Line) (n : SlotNo) (o : TransactionOutcome), EngineFits (s.engine l) →
    let e := s.engine l
    let t := (released l { s with engines := s.engines.put l { e with leadTimer := none } }).complete n o
    (e.state = .guard ∨ e.state = .await ∨ e.state = .receive → s.engineCancel l n o = settling l t) ∧
    (e.state = .settle → e.mode ≠ .draining → s.engineCancel l n o = t) ∧
    (e.state = .settle → e.mode = .draining →
      s.engineCancel l n o =
        { t with engines := t.engines.put l { t.engine l with mode := .off, drainKind := none, state := .disabled,
                                                              stuckTimer := none } }) ∧
    (e.state = .transmit ∨ e.state = .turnaround → s.engineCancel l n o = s)

/-! ### The end of an attempt and of a transaction (chapters 2, 5 and 6) -/

/-- R32, R34: a failed attempt sets last failure. With attempts left the slot is QUEUED on its line, at the tail of its class
after BUSY and at the head of its class after any other failure; with none left it completes with the outcome that names the
failure. Nothing else changes in the first case. -/
def Obligations.FailedAttemptIsRetriedOrEnds : Prop :=
  ∀ (s : State) (n : SlotNo) (f : Failure),
    let x : Slot := { s.slot n with lastFailure := some f }
    let e := s.engine x.line
    let rank (m : SlotNo) : Nat := (s.slot m).cls.rank
    let stays (m : SlotNo) : Bool := if f = .busy then decide (rank m ≤ rank n) else decide (rank m < rank n)
    let outcome : TransactionOutcome :=
      match f with
      | .silence => .noReply
      | .garbled => .garbled
      | .wrongStation => .wrongStation
      | .stale => .stale
      | .busy => .busy
      | .collision => .collision
    (x.attempts < x.retryLimit + 1 →
      s.retry n f =
        { s with slots := s.slots.put n { x with state := .queued },
                 engines := s.engines.put x.line
                   { e with queue := e.queue.takeWhile stays ++ n :: e.queue.dropWhile stays } }) ∧
    (x.retryLimit + 1 ≤ x.attempts → s.retry n f = ({ s with slots := s.slots.put n x }).complete n outcome)

/-- R66, R29, R32: in a queue that stands in class order (URGENT, NORMAL, POLL), a slot placed at the tail or at the head of
its class leaves the order of the others as it was, keeps the class order, and stands behind every slot of a class ahead of it
and before every slot of a class behind it; at the tail it stands behind every slot of its class, at the head before them. -/
def Obligations.QueueKeepsClassOrder : Prop :=
  ∀ (s : State) (q : List SlotNo) (n : SlotNo),
    let rank (m : SlotNo) : Nat := (s.slot m).cls.rank
    q.Pairwise (fun a b => rank a ≤ rank b) →
    s.atTailOfClass q n = q.filter (fun m => decide (rank m ≤ rank n)) ++ n :: q.filter (fun m => decide (rank n < rank m)) ∧
    s.atHeadOfClass q n = q.filter (fun m => decide (rank m < rank n)) ++ n :: q.filter (fun m => decide (rank n ≤ rank m)) ∧
    (s.atTailOfClass q n).Pairwise (fun a b => rank a ≤ rank b) ∧
    (s.atHeadOfClass q n).Pairwise (fun a b => rank a ≤ rank b)

/-- R35, R36, R91, R123, R124, R132, R88: the completion of a HOST slot sets its outcome and the present tick as its done
time and makes it DONE; its TRANSACTION record joins the tail of the list with the station's derived state, and the hold state
is evaluated. Its station becomes UNSYNC, its other fields kept, when request sent is set and the outcome is neither OK nor
SENT; no other record changes and no change set grows. Nothing else changes. That the DONE slot keeps its cancel pending
flag is the model's reading (assumption log entry 11). -/
def Obligations.HostSlotCompletes : Prop :=
  ∀ (s : State) (n : SlotNo) (o : TransactionOutcome), (s.slot n).origin = .host →
    let x := s.slot n
    let t := s.complete n o
    let records := s.queue.records ++
      [{ slot := n, kind := .transaction, derived := s.derivedOf x.line x.station }]
    t.slots = s.slots.put n { x with state := .done, outcome := some o, doneTime := s.tick } ∧
    t.queue = { s.queue with records := records,
                             headerPos := if s.queue.records = [] then 0 else s.queue.headerPos,
                             hold := if s.queue.highMark ≤ records.length then .held
                                     else if records.length ≤ s.queue.lowMark then .freeRunning
                                     else s.queue.hold } ∧
    (∀ (l : Line) (a : StationAddr), t.station l a =
      if l = x.line ∧ a = x.station ∧ a ≠ 0 ∧ x.requestSent = true ∧ o ≠ .ok ∧ o ≠ .sent then
        { s.station l a with sync := .unsync }
      else s.station l a) ∧
    (∀ l : Line, (t.stationLine l).changes = (s.stationLine l).changes) ∧
    t = { s with slots := t.slots, queue := t.queue, stations := t.stations }

/-- R113, R114, R115, R116, R36, R49, R20, R104: the completion of a POLL slot at its scheduler. With outcome OK the entry of
its tag takes the digest of the reply, and a report is made by the policy: always under ALWAYS, never under STATUS_ONLY, under
ON_CHANGE when the entry's digest is absent or differs. A report makes the slot DONE with a POLL_REPORT record and keeps the
live slot; without one the slot is FREE, its blocks are back and the live slot is absent. With any other outcome the digest is
absent too. A report joins the tail of the list with the hold state evaluated (R124, R132). No other entry, station record,
change set or slot and nothing else changes. That the DONE slot keeps its cancel pending flag is the model's reading
(assumption log entry 11). -/
def Obligations.PollSlotCompletes : Prop :=
  ∀ (s : State) (n : SlotNo) (o : TransactionOutcome) (i : EntryNo), (s.slot n).origin = .poll →
    (s.slot n).tag = byteOf i.val →
    let x := s.slot n
    let old := s.entry x.line i
    let digest := digestOf (s.chainBytes x.replyChain (x.replyLength.getD 0))
    let reported : Prop := o = .ok ∧
      (old.definition.policy = .always ∨ (old.definition.policy = .onChange ∧ old.digest ≠ some digest))
    let t := s.complete n o
    (reported →
      t.slots = s.slots.put n { x with state := .done, outcome := some .ok, doneTime := s.tick } ∧
      t.queue = appended s.queue { slot := n, kind := .pollReport, derived := s.derivedOf x.line x.station } ∧
      t.pool = s.pool ∧ t.entry x.line i = { old with digest := some digest }) ∧
    (¬ reported →
      t.slots = s.slots.put n Slot.cleared ∧ t.queue = s.queue ∧
      t.pool = { s.pool with free := s.pool.free ++ x.requestChain ++ x.replyChain } ∧
      t.entry x.line i = { old with digest := if o = .ok then some digest else none, live := none }) ∧
    (∀ (l : Line) (j : EntryNo), l ≠ x.line ∨ j ≠ i → t.entry l j = s.entry l j) ∧
    (∀ (l : Line) (a : StationAddr), t.station l a =
      if l = x.line ∧ a = x.station ∧ a ≠ 0 ∧ x.requestSent = true ∧ o ≠ .ok ∧ o ≠ .sent then
        { s.station l a with sync := .unsync }
      else s.station l a) ∧
    (∀ l : Line, (t.stationLine l).changes = (s.stationLine l).changes ∧
      t.sched l = { s.sched l with entries := (t.sched l).entries }) ∧
    t = { s with slots := t.slots, pool := t.pool, queue := t.queue, stations := t.stations, scheds := t.scheds }

/-- R89, R95, R88: the table of what each verdict does to the record of the slot's station (a good REPLY and REPLY_TOO_LONG
flip the toggle, a good RESYNC_ACK makes it SYNCED with toggle 0, STALE makes it UNSYNC, BUSY only counts it alive, SILENCE
and GARBLED count against it up to 15, WRONG_STATION and COLLISION change nothing), and that a station joins its line's change
set exactly when its derived state crosses the OFFLINE boundary; every other record and change set is as it was. -/
def Obligations.VerdictUpdatesTheStation : Prop :=
  ∀ (s : State) (l : Line) (a : StationAddr) (v : Verdict), a ≠ 0 →
    let old := s.station l a
    let new : Station :=
      match v with
      | .goodReply | .replyTooLong =>
        { failureCount := 0, replied := true, sync := old.sync, toggle := !old.toggle }
      | .goodAck => { failureCount := 0, replied := true, sync := .synced, toggle := false }
      | .failed .stale => { failureCount := 0, replied := true, sync := .unsync, toggle := old.toggle }
      | .failed .busy => { failureCount := 0, replied := true, sync := old.sync, toggle := old.toggle }
      | .failed .silence | .failed .garbled => { old with failureCount := min 15 (old.failureCount + 1) }
      | .failed .wrongStation | .failed .collision => old
    let threshold := (s.engine l).config.offlineThreshold
    let t := s.updateStation l a fun x => x.afterVerdict v
    t.station l a = new ∧
    (∀ (k : Line) (b : StationAddr), k ≠ l ∨ b ≠ a → t.station k b = s.station k b) ∧
    (∀ (k : Line) (i : Nat), (t.stationLine k).changes.getLsbD i = true ↔
      (s.stationLine k).changes.getLsbD i = true ∨
        (k = l ∧ i = a.val ∧ ¬ (threshold ≤ old.failureCount ↔ threshold ≤ new.failureCount))) ∧
    t = { s with stations := t.stations }

/-! ### What every step keeps -/

/-- The model's form of the payload memory of section 3.1, a list of its bytes that are not 0 (assumption log entry 19), is
kept by every step: addresses strictly rising, all in the pool's 2048 bytes, no entry equal to what an unlisted address reads
as. -/
def Obligations.MemoryStaysCanonical : Prop :=
  ∀ s t : State, Memory.wf s.pool.mem = true → step s = .next t → Memory.wf t.pool.mem = true

/-- R20, R22, R46, R49, R66, R68, R123: no happening leaves a slot in two places or in a place that does not match its state,
a FREE slot holding anything but the cleared record, or a block in two places or in none, or a pending queue out of class
order. From every state in which slots and blocks stand in their places, a step leads to such a state. -/
def Obligations.SlotsAndBlocksKeepTheirPlaces : Prop :=
  ∀ s t : State, Places s → step s = .next t → Places t

/-- Section 4.1, R57, R61, R68, R80, R82 and chapter 4's tables: every engine stays in a state that the chapter allows: the
engine state fits the mode, a slot is held exactly in the states that hold one, with its phase and resynced, and each timer
runs in its own state alone. -/
def Obligations.EnginesStayFit : Prop := ∀ s t : State, EnginesFit s → step s = .next t → EnginesFit t

/-- R48, R57, R63, R64, R87, R96, R106, R111, R134, R185 and section 6.2: a line is ABSENT exactly when its strap was sampled
low; a scheduler runs only while its line is ON, and holds claims only while it runs; and line configurations, failure counts,
change maps, periods, cycle timers, deferral counts, watermarks, trigger and host reserve stay in their ranges. -/
def Obligations.StrapsSchedulersAndValuesStayFit : Prop :=
  ∀ s t : State, StrapsRule s → SchedulersFit s → ValuesInRange s → step s = .next t →
    StrapsRule t ∧ SchedulersFit t ∧ ValuesInRange t

/-- R1, R167, R179, R180, R185: after every step the outputs stand as the rules say: INT asserted exactly while something
unmasked is pending and DRQ exactly while a DMA byte is wanted, both undriven while BUS_ENABLE is 0; each driver enabled
exactly in GUARD, TRANSMIT and TURNAROUND; each transmit output at mark while its transmitter is idle; all released or at
rest while the reset input is active. -/
def Obligations.OutputsFollowEveryStep : Prop := ∀ s t : State, OutputsFollow s → step s = .next t → OutputsFollow t

/-! ### Rules over all commands -/

/-- R90, R16: a station becomes SYNCED only by a good RESYNC_ACK: the one command that can do it is a character delivered on
its line, to an engine in RECEIVE in phase RESYNC whose active slot names the station and has no cancel pending. The character
has a sound stop and marker 0, it is the second check character and so completes the frame, and the frame is judged a good
RESYNC_ACK (R13, R78: `Obligations.FrameIsJudgedInOrder` says when). The station's expected toggle is then 0. -/
def Obligations.SyncedOnlyByResyncAck : Prop :=
  ∀ (c : Instr) (s t : State) (l : Line) (a : StationAddr), exec c s = .next t → (s.station l a).sync = .unsync →
    (t.station l a).sync = .synced →
    let k := s.link l
    (t.station l a).toggle = false ∧ (s.engine l).state = .receive ∧ (s.engine l).phase = some .resync ∧
    ∃ (n : SlotNo) (data : Byte), (s.engine l).active = some n ∧ (s.slot n).station = a ∧
      (s.slot n).cancelPending = none ∧
      c = .characterReceived l (BitVec.ofBool true ++ BitVec.ofBool false ++ data) ∧
      3 < k.charCount ∧ 4 + k.length.toNat ≤ k.charCount ∧
      judgeFrame .resync (decide (k.check.toNat = k.checkHigh.toNat * 256 + data.toNat)) k.control k.length.toNat
        (s.slot n).replyRoom k.sentToggle = .goodAck

/-- R45, section 3.4: a byte of payload memory changes only by a byte that an INTAKE owner takes (a write at offset 3, the DATA
location, or an acknowledged DMA byte; that IGNORED_WRITE acts as the write at its offset where none is ignored is the
model's choice, assumption log entry 27), by a poll creation, by a character received in phase
REQUEST, or by hardware reset. -/
def Obligations.MemoryChangesOnlyByItsWriters : Prop :=
  ∀ (c : Instr) (s t : State) (a : Nat), exec c s = .next t → Memory.read t.pool.mem a ≠ Memory.read s.pool.mem a →
    (s.data.owner = .intake ∧ ((∃ b : Byte, c = .dataWrite b ∨ c = .ignoredWrite 3 b) ∨
      ∃ (b : Byte) (tc : Bool), c = .dmaWriteAck b tc)) ∨
    (∃ l : Line, c = .pollClaim l ∧ (s.sched l).due ≠ []) ∨
    (∃ (l : Line) (samples : BitVec 10), c = .characterReceived l samples ∧ (s.engine l).state = .receive ∧
      (s.engine l).phase = some .request) ∨
    ∃ straps : BitVec 4, c = .hardwareReset straps

/-- The openings of chapters 4 and 6 ("The four engines hold no state in common", "The four schedulers share nothing") and
R87: in a state
where every slot stands in its place, a happening of one line leaves the engine, the link, the stations and the scheduler of
every other line as they were, and every slot that is not FREE and belongs to another line. -/
def Obligations.LinesDoNotDisturbEachOther : Prop :=
  ∀ (s t : State) (l k : Line) (c : Instr), Places s → k ≠ l →
    ((c = .take l ∨ c = .leadTimerExpiry l ∨ c = .guardSpaceHeard l ∨ c = .holdTimerExpiry l ∨ c = .replyTimeout l ∨
      c = .startBitTaken l ∨ c = .gapLimitExpiry l ∨ c = .settleQuiet l ∨ c = .stuckTimerExpiry l ∨
      c = .receiverReArm l ∨ c = .cycleStart l ∨ c = .pollClaim l) ∨
     (∃ readBack : BitVec 11, c = .characterSent l readBack) ∨
     ∃ samples : BitVec 10, c = .characterReceived l samples) →
    exec c s = .next t →
    t.engine k = s.engine k ∧ t.link k = s.link k ∧ t.stationLine k = s.stationLine k ∧ t.sched k = s.sched k ∧
    ∀ n : SlotNo, (s.slot n).state ≠ .free → (s.slot n).line = k → t.slot n = s.slot n

/-- R184: a write to CONTROL hands its actions and state values out as separate happenings, in any order. With SOFT_RESET
among them every order ends in the same state. Without it every two orders end in the same state but for the order in which
the free list holds the same blocks: ABORT_CMD and DISCARD_HEAD can both return blocks, each to the tail (R49), and of two
happenings that reach one piece of state the owning block's rule gives the outcome for either order (section 5.5; assumption
log entry 14). The write as a whole takes them in the order of the bits (the model reaches it through IGNORED_WRITE at offset
1: assumption log entry 27). The state is one in which every slot and block stands in its place. -/
def Obligations.ControlActionsCommute : Prop :=
  ∀ (s : State) (b : Byte) (p q : List Instr), s.inReset = false → Places s → p.Perm (controlCommands b) →
    q.Perm (controlCommands b) →
    (b.getLsbD 0 = true → afterAll p s = afterAll q s) ∧
    (b.getLsbD 0 = false →
      (afterAll p s).pool.free.Perm (afterAll q s).pool.free ∧
      afterAll p s = { afterAll q s with pool := { (afterAll q s).pool with free := (afterAll p s).pool.free } }) ∧
    (¬ (b.getLsbD 1 = true ∧ b.getLsbD 2 = true) → afterAll p s = afterAll q s) ∧
    exec (.ignoredWrite 1 b) s = .next (afterAll (controlCommands b) s)
end

