-- ==== Sys2Proof/Laws/State.lean ====
section
/-! SUPPORT. The small lemmas of the state: what a table holds after one record is replaced, and what each named update
leaves in each field. All are simp lemmas, so no later proof unfolds a record update. -/

namespace Sys2Proof

theorem Table.look_put {n : Nat} {α : Type} (t : Table n α) (i j : Fin n) (x : α) :
    (t.put i x).look j = if i = j then x else t.look j := by
  simp only [Table.look, Table.put, Vector.get, Vector.set, Array.getElem_set, Fin.ext_iff]
  rfl

@[simp] theorem Table.look_put_same {n : Nat} {α : Type} (t : Table n α) (i : Fin n) (x : α) :
    (t.put i x).look i = x := by simp [Table.look_put]

theorem Table.look_put_ne {n : Nat} {α : Type} (t : Table n α) {i j : Fin n} (x : α) (h : i ≠ j) :
    (t.put i x).look j = t.look j := by simp [Table.look_put, h]

@[simp] theorem Table.look_fill {α : Type} (n : Nat) (x : α) (i : Fin n) : (Table.fill n x).look i = x := by
  simp [Table.look, Table.fill, Vector.get]

@[simp] theorem Table.look_make {n : Nat} {α : Type} (f : Fin n → α) (i : Fin n) : (Table.make f).look i = f i := by
  simp only [Table.look, Table.make, Vector.get, Vector.ofFn, Array.getElem_ofFn]
  rfl

/-- Two tables with the same records are the same table. -/
theorem Table.ext {n : Nat} {α : Type} {t u : Table n α} (h : ∀ i : Fin n, t.look i = u.look i) : t = u := by
  apply Vector.ext
  intro i hi
  exact h ⟨i, hi⟩

/-- Writing back the record that stands there changes nothing. -/
@[simp] theorem Table.put_look {n : Nat} {α : Type} (t : Table n α) (i : Fin n) : t.put i (t.look i) = t :=
  Table.ext fun j => by by_cases h : i = j <;> simp [Table.look_put, h]

@[simp] theorem Table.put_put {n : Nat} {α : Type} (t : Table n α) (i : Fin n) (x y : α) :
    (t.put i x).put i y = t.put i y :=
  Table.ext fun j => by by_cases h : i = j <;> simp [Table.look_put, h]

namespace Machine

/-! ### The record a table holds after an update -/

@[simp] theorem State.setSlot_slot_same (s : State) (m : SlotNo) (x : Slot) : (s.setSlot m x).slot m = x := by simp [State.setSlot, State.slot]

theorem State.setSlot_slot (s : State) (m : SlotNo) (x : Slot) (k : SlotNo) :
    (s.setSlot m x).slot k = if m = k then x else s.slot k := by simp [State.setSlot, State.slot, Table.look_put]

theorem State.setSlot_slot_ne (s : State) (m : SlotNo) (x : Slot) {k : SlotNo} (h : m ≠ k) : (s.setSlot m x).slot k = s.slot k := by
  simp [State.setSlot_slot, h]

@[simp] theorem State.setEngine_engine_same (s : State) (l : Line) (x : Engine) : (s.setEngine l x).engine l = x := by simp [State.setEngine, State.engine]

theorem State.setEngine_engine (s : State) (l : Line) (x : Engine) (k : Line) :
    (s.setEngine l x).engine k = if l = k then x else s.engine k := by simp [State.setEngine, State.engine, Table.look_put]

theorem State.setEngine_engine_ne (s : State) (l : Line) (x : Engine) {k : Line} (h : l ≠ k) : (s.setEngine l x).engine k = s.engine k := by
  simp [State.setEngine_engine, h]

@[simp] theorem State.setLink_link_same (s : State) (l : Line) (x : Link) : (s.setLink l x).link l = x := by simp [State.setLink, State.link]

theorem State.setLink_link (s : State) (l : Line) (x : Link) (k : Line) :
    (s.setLink l x).link k = if l = k then x else s.link k := by simp [State.setLink, State.link, Table.look_put]

theorem State.setLink_link_ne (s : State) (l : Line) (x : Link) {k : Line} (h : l ≠ k) : (s.setLink l x).link k = s.link k := by
  simp [State.setLink_link, h]

@[simp] theorem State.setStationLine_stationLine_same (s : State) (l : Line) (x : StationLine) : (s.setStationLine l x).stationLine l = x := by simp [State.setStationLine, State.stationLine]

theorem State.setStationLine_stationLine (s : State) (l : Line) (x : StationLine) (k : Line) :
    (s.setStationLine l x).stationLine k = if l = k then x else s.stationLine k := by simp [State.setStationLine, State.stationLine, Table.look_put]

theorem State.setStationLine_stationLine_ne (s : State) (l : Line) (x : StationLine) {k : Line} (h : l ≠ k) : (s.setStationLine l x).stationLine k = s.stationLine k := by
  simp [State.setStationLine_stationLine, h]

@[simp] theorem State.setSched_sched_same (s : State) (l : Line) (x : Scheduler) : (s.setSched l x).sched l = x := by simp [State.setSched, State.sched]

theorem State.setSched_sched (s : State) (l : Line) (x : Scheduler) (k : Line) :
    (s.setSched l x).sched k = if l = k then x else s.sched k := by simp [State.setSched, State.sched, Table.look_put]

theorem State.setSched_sched_ne (s : State) (l : Line) (x : Scheduler) {k : Line} (h : l ≠ k) : (s.setSched l x).sched k = s.sched k := by
  simp [State.setSched_sched, h]

/-! ### What an update of one field leaves in the others -/

@[simp] theorem State.setSlot_inReset (s : State) (m : SlotNo) (x : Slot) : (s.setSlot m x).inReset = s.inReset := rfl
@[simp] theorem State.setSlot_straps (s : State) (m : SlotNo) (x : Slot) : (s.setSlot m x).straps = s.straps := rfl
@[simp] theorem State.setSlot_tick (s : State) (m : SlotNo) (x : Slot) : (s.setSlot m x).tick = s.tick := rfl
@[simp] theorem State.setSlot_tickLatch (s : State) (m : SlotNo) (x : Slot) : (s.setSlot m x).tickLatch = s.tickLatch := rfl
@[simp] theorem State.setSlot_pool (s : State) (m : SlotNo) (x : Slot) : (s.setSlot m x).pool = s.pool := rfl
@[simp] theorem State.setSlot_engines (s : State) (m : SlotNo) (x : Slot) : (s.setSlot m x).engines = s.engines := rfl
@[simp] theorem State.setSlot_links (s : State) (m : SlotNo) (x : Slot) : (s.setSlot m x).links = s.links := rfl
@[simp] theorem State.setSlot_stations (s : State) (m : SlotNo) (x : Slot) : (s.setSlot m x).stations = s.stations := rfl
@[simp] theorem State.setSlot_scheds (s : State) (m : SlotNo) (x : Slot) : (s.setSlot m x).scheds = s.scheds := rfl
@[simp] theorem State.setSlot_queue (s : State) (m : SlotNo) (x : Slot) : (s.setSlot m x).queue = s.queue := rfl
@[simp] theorem State.setSlot_port (s : State) (m : SlotNo) (x : Slot) : (s.setSlot m x).port = s.port := rfl
@[simp] theorem State.setSlot_data (s : State) (m : SlotNo) (x : Slot) : (s.setSlot m x).data = s.data := rfl
@[simp] theorem State.setSlot_events (s : State) (m : SlotNo) (x : Slot) : (s.setSlot m x).events = s.events := rfl
@[simp] theorem State.setSlot_pins (s : State) (m : SlotNo) (x : Slot) : (s.setSlot m x).pins = s.pins := rfl
@[simp] theorem State.setSlot_dataBus (s : State) (m : SlotNo) (x : Slot) : (s.setSlot m x).dataBus = s.dataBus := rfl
@[simp] theorem State.setSlot_pending (s : State) (m : SlotNo) (x : Slot) : (s.setSlot m x).pending = s.pending := rfl
@[simp] theorem State.setSlot_engine' (s : State) (m : SlotNo) (x : Slot) (k : Line) : (s.setSlot m x).engine k = s.engine k := rfl
@[simp] theorem State.setSlot_link' (s : State) (m : SlotNo) (x : Slot) (k : Line) : (s.setSlot m x).link k = s.link k := rfl
@[simp] theorem State.setSlot_stationLine' (s : State) (m : SlotNo) (x : Slot) (k : Line) : (s.setSlot m x).stationLine k = s.stationLine k := rfl
@[simp] theorem State.setSlot_sched' (s : State) (m : SlotNo) (x : Slot) (k : Line) : (s.setSlot m x).sched k = s.sched k := rfl

@[simp] theorem State.setEngine_inReset (s : State) (l : Line) (x : Engine) : (s.setEngine l x).inReset = s.inReset := rfl
@[simp] theorem State.setEngine_straps (s : State) (l : Line) (x : Engine) : (s.setEngine l x).straps = s.straps := rfl
@[simp] theorem State.setEngine_tick (s : State) (l : Line) (x : Engine) : (s.setEngine l x).tick = s.tick := rfl
@[simp] theorem State.setEngine_tickLatch (s : State) (l : Line) (x : Engine) : (s.setEngine l x).tickLatch = s.tickLatch := rfl
@[simp] theorem State.setEngine_slots (s : State) (l : Line) (x : Engine) : (s.setEngine l x).slots = s.slots := rfl
@[simp] theorem State.setEngine_pool (s : State) (l : Line) (x : Engine) : (s.setEngine l x).pool = s.pool := rfl
@[simp] theorem State.setEngine_links (s : State) (l : Line) (x : Engine) : (s.setEngine l x).links = s.links := rfl
@[simp] theorem State.setEngine_stations (s : State) (l : Line) (x : Engine) : (s.setEngine l x).stations = s.stations := rfl
@[simp] theorem State.setEngine_scheds (s : State) (l : Line) (x : Engine) : (s.setEngine l x).scheds = s.scheds := rfl
@[simp] theorem State.setEngine_queue (s : State) (l : Line) (x : Engine) : (s.setEngine l x).queue = s.queue := rfl
@[simp] theorem State.setEngine_port (s : State) (l : Line) (x : Engine) : (s.setEngine l x).port = s.port := rfl
@[simp] theorem State.setEngine_data (s : State) (l : Line) (x : Engine) : (s.setEngine l x).data = s.data := rfl
@[simp] theorem State.setEngine_events (s : State) (l : Line) (x : Engine) : (s.setEngine l x).events = s.events := rfl
@[simp] theorem State.setEngine_pins (s : State) (l : Line) (x : Engine) : (s.setEngine l x).pins = s.pins := rfl
@[simp] theorem State.setEngine_dataBus (s : State) (l : Line) (x : Engine) : (s.setEngine l x).dataBus = s.dataBus := rfl
@[simp] theorem State.setEngine_pending (s : State) (l : Line) (x : Engine) : (s.setEngine l x).pending = s.pending := rfl
@[simp] theorem State.setEngine_slot' (s : State) (l : Line) (x : Engine) (n : SlotNo) : (s.setEngine l x).slot n = s.slot n := rfl
@[simp] theorem State.setEngine_link' (s : State) (l : Line) (x : Engine) (k : Line) : (s.setEngine l x).link k = s.link k := rfl
@[simp] theorem State.setEngine_stationLine' (s : State) (l : Line) (x : Engine) (k : Line) : (s.setEngine l x).stationLine k = s.stationLine k := rfl
@[simp] theorem State.setEngine_sched' (s : State) (l : Line) (x : Engine) (k : Line) : (s.setEngine l x).sched k = s.sched k := rfl

@[simp] theorem State.setLink_inReset (s : State) (l : Line) (x : Link) : (s.setLink l x).inReset = s.inReset := rfl
@[simp] theorem State.setLink_straps (s : State) (l : Line) (x : Link) : (s.setLink l x).straps = s.straps := rfl
@[simp] theorem State.setLink_tick (s : State) (l : Line) (x : Link) : (s.setLink l x).tick = s.tick := rfl
@[simp] theorem State.setLink_tickLatch (s : State) (l : Line) (x : Link) : (s.setLink l x).tickLatch = s.tickLatch := rfl
@[simp] theorem State.setLink_slots (s : State) (l : Line) (x : Link) : (s.setLink l x).slots = s.slots := rfl
@[simp] theorem State.setLink_pool (s : State) (l : Line) (x : Link) : (s.setLink l x).pool = s.pool := rfl
@[simp] theorem State.setLink_engines (s : State) (l : Line) (x : Link) : (s.setLink l x).engines = s.engines := rfl
@[simp] theorem State.setLink_stations (s : State) (l : Line) (x : Link) : (s.setLink l x).stations = s.stations := rfl
@[simp] theorem State.setLink_scheds (s : State) (l : Line) (x : Link) : (s.setLink l x).scheds = s.scheds := rfl
@[simp] theorem State.setLink_queue (s : State) (l : Line) (x : Link) : (s.setLink l x).queue = s.queue := rfl
@[simp] theorem State.setLink_port (s : State) (l : Line) (x : Link) : (s.setLink l x).port = s.port := rfl
@[simp] theorem State.setLink_data (s : State) (l : Line) (x : Link) : (s.setLink l x).data = s.data := rfl
@[simp] theorem State.setLink_events (s : State) (l : Line) (x : Link) : (s.setLink l x).events = s.events := rfl
@[simp] theorem State.setLink_pins (s : State) (l : Line) (x : Link) : (s.setLink l x).pins = s.pins := rfl
@[simp] theorem State.setLink_dataBus (s : State) (l : Line) (x : Link) : (s.setLink l x).dataBus = s.dataBus := rfl
@[simp] theorem State.setLink_pending (s : State) (l : Line) (x : Link) : (s.setLink l x).pending = s.pending := rfl
@[simp] theorem State.setLink_slot' (s : State) (l : Line) (x : Link) (n : SlotNo) : (s.setLink l x).slot n = s.slot n := rfl
@[simp] theorem State.setLink_engine' (s : State) (l : Line) (x : Link) (k : Line) : (s.setLink l x).engine k = s.engine k := rfl
@[simp] theorem State.setLink_stationLine' (s : State) (l : Line) (x : Link) (k : Line) : (s.setLink l x).stationLine k = s.stationLine k := rfl
@[simp] theorem State.setLink_sched' (s : State) (l : Line) (x : Link) (k : Line) : (s.setLink l x).sched k = s.sched k := rfl

@[simp] theorem State.setStationLine_inReset (s : State) (l : Line) (x : StationLine) : (s.setStationLine l x).inReset = s.inReset := rfl
@[simp] theorem State.setStationLine_straps (s : State) (l : Line) (x : StationLine) : (s.setStationLine l x).straps = s.straps := rfl
@[simp] theorem State.setStationLine_tick (s : State) (l : Line) (x : StationLine) : (s.setStationLine l x).tick = s.tick := rfl
@[simp] theorem State.setStationLine_tickLatch (s : State) (l : Line) (x : StationLine) : (s.setStationLine l x).tickLatch = s.tickLatch := rfl
@[simp] theorem State.setStationLine_slots (s : State) (l : Line) (x : StationLine) : (s.setStationLine l x).slots = s.slots := rfl
@[simp] theorem State.setStationLine_pool (s : State) (l : Line) (x : StationLine) : (s.setStationLine l x).pool = s.pool := rfl
@[simp] theorem State.setStationLine_engines (s : State) (l : Line) (x : StationLine) : (s.setStationLine l x).engines = s.engines := rfl
@[simp] theorem State.setStationLine_links (s : State) (l : Line) (x : StationLine) : (s.setStationLine l x).links = s.links := rfl
@[simp] theorem State.setStationLine_scheds (s : State) (l : Line) (x : StationLine) : (s.setStationLine l x).scheds = s.scheds := rfl
@[simp] theorem State.setStationLine_queue (s : State) (l : Line) (x : StationLine) : (s.setStationLine l x).queue = s.queue := rfl
@[simp] theorem State.setStationLine_port (s : State) (l : Line) (x : StationLine) : (s.setStationLine l x).port = s.port := rfl
@[simp] theorem State.setStationLine_data (s : State) (l : Line) (x : StationLine) : (s.setStationLine l x).data = s.data := rfl
@[simp] theorem State.setStationLine_events (s : State) (l : Line) (x : StationLine) : (s.setStationLine l x).events = s.events := rfl
@[simp] theorem State.setStationLine_pins (s : State) (l : Line) (x : StationLine) : (s.setStationLine l x).pins = s.pins := rfl
@[simp] theorem State.setStationLine_dataBus (s : State) (l : Line) (x : StationLine) : (s.setStationLine l x).dataBus = s.dataBus := rfl
@[simp] theorem State.setStationLine_pending (s : State) (l : Line) (x : StationLine) : (s.setStationLine l x).pending = s.pending := rfl
@[simp] theorem State.setStationLine_slot' (s : State) (l : Line) (x : StationLine) (n : SlotNo) : (s.setStationLine l x).slot n = s.slot n := rfl
@[simp] theorem State.setStationLine_engine' (s : State) (l : Line) (x : StationLine) (k : Line) : (s.setStationLine l x).engine k = s.engine k := rfl
@[simp] theorem State.setStationLine_link' (s : State) (l : Line) (x : StationLine) (k : Line) : (s.setStationLine l x).link k = s.link k := rfl
@[simp] theorem State.setStationLine_sched' (s : State) (l : Line) (x : StationLine) (k : Line) : (s.setStationLine l x).sched k = s.sched k := rfl

@[simp] theorem State.setSched_inReset (s : State) (l : Line) (x : Scheduler) : (s.setSched l x).inReset = s.inReset := rfl
@[simp] theorem State.setSched_straps (s : State) (l : Line) (x : Scheduler) : (s.setSched l x).straps = s.straps := rfl
@[simp] theorem State.setSched_tick (s : State) (l : Line) (x : Scheduler) : (s.setSched l x).tick = s.tick := rfl
@[simp] theorem State.setSched_tickLatch (s : State) (l : Line) (x : Scheduler) : (s.setSched l x).tickLatch = s.tickLatch := rfl
@[simp] theorem State.setSched_slots (s : State) (l : Line) (x : Scheduler) : (s.setSched l x).slots = s.slots := rfl
@[simp] theorem State.setSched_pool (s : State) (l : Line) (x : Scheduler) : (s.setSched l x).pool = s.pool := rfl
@[simp] theorem State.setSched_engines (s : State) (l : Line) (x : Scheduler) : (s.setSched l x).engines = s.engines := rfl
@[simp] theorem State.setSched_links (s : State) (l : Line) (x : Scheduler) : (s.setSched l x).links = s.links := rfl
@[simp] theorem State.setSched_stations (s : State) (l : Line) (x : Scheduler) : (s.setSched l x).stations = s.stations := rfl
@[simp] theorem State.setSched_queue (s : State) (l : Line) (x : Scheduler) : (s.setSched l x).queue = s.queue := rfl
@[simp] theorem State.setSched_port (s : State) (l : Line) (x : Scheduler) : (s.setSched l x).port = s.port := rfl
@[simp] theorem State.setSched_data (s : State) (l : Line) (x : Scheduler) : (s.setSched l x).data = s.data := rfl
@[simp] theorem State.setSched_events (s : State) (l : Line) (x : Scheduler) : (s.setSched l x).events = s.events := rfl
@[simp] theorem State.setSched_pins (s : State) (l : Line) (x : Scheduler) : (s.setSched l x).pins = s.pins := rfl
@[simp] theorem State.setSched_dataBus (s : State) (l : Line) (x : Scheduler) : (s.setSched l x).dataBus = s.dataBus := rfl
@[simp] theorem State.setSched_pending (s : State) (l : Line) (x : Scheduler) : (s.setSched l x).pending = s.pending := rfl
@[simp] theorem State.setSched_slot' (s : State) (l : Line) (x : Scheduler) (n : SlotNo) : (s.setSched l x).slot n = s.slot n := rfl
@[simp] theorem State.setSched_engine' (s : State) (l : Line) (x : Scheduler) (k : Line) : (s.setSched l x).engine k = s.engine k := rfl
@[simp] theorem State.setSched_link' (s : State) (l : Line) (x : Scheduler) (k : Line) : (s.setSched l x).link k = s.link k := rfl
@[simp] theorem State.setSched_stationLine' (s : State) (l : Line) (x : Scheduler) (k : Line) : (s.setSched l x).stationLine k = s.stationLine k := rfl

@[simp] theorem State.modData_inReset (s : State) (f : DataPort → DataPort) : (s.modData f).inReset = s.inReset := rfl
@[simp] theorem State.modData_straps (s : State) (f : DataPort → DataPort) : (s.modData f).straps = s.straps := rfl
@[simp] theorem State.modData_tick (s : State) (f : DataPort → DataPort) : (s.modData f).tick = s.tick := rfl
@[simp] theorem State.modData_tickLatch (s : State) (f : DataPort → DataPort) : (s.modData f).tickLatch = s.tickLatch := rfl
@[simp] theorem State.modData_slots (s : State) (f : DataPort → DataPort) : (s.modData f).slots = s.slots := rfl
@[simp] theorem State.modData_pool (s : State) (f : DataPort → DataPort) : (s.modData f).pool = s.pool := rfl
@[simp] theorem State.modData_engines (s : State) (f : DataPort → DataPort) : (s.modData f).engines = s.engines := rfl
@[simp] theorem State.modData_links (s : State) (f : DataPort → DataPort) : (s.modData f).links = s.links := rfl
@[simp] theorem State.modData_stations (s : State) (f : DataPort → DataPort) : (s.modData f).stations = s.stations := rfl
@[simp] theorem State.modData_scheds (s : State) (f : DataPort → DataPort) : (s.modData f).scheds = s.scheds := rfl
@[simp] theorem State.modData_queue (s : State) (f : DataPort → DataPort) : (s.modData f).queue = s.queue := rfl
@[simp] theorem State.modData_port (s : State) (f : DataPort → DataPort) : (s.modData f).port = s.port := rfl
@[simp] theorem State.modData_events (s : State) (f : DataPort → DataPort) : (s.modData f).events = s.events := rfl
@[simp] theorem State.modData_pins (s : State) (f : DataPort → DataPort) : (s.modData f).pins = s.pins := rfl
@[simp] theorem State.modData_dataBus (s : State) (f : DataPort → DataPort) : (s.modData f).dataBus = s.dataBus := rfl
@[simp] theorem State.modData_pending (s : State) (f : DataPort → DataPort) : (s.modData f).pending = s.pending := rfl
@[simp] theorem State.modData_slot' (s : State) (f : DataPort → DataPort) (n : SlotNo) : (s.modData f).slot n = s.slot n := rfl
@[simp] theorem State.modData_engine' (s : State) (f : DataPort → DataPort) (k : Line) : (s.modData f).engine k = s.engine k := rfl
@[simp] theorem State.modData_link' (s : State) (f : DataPort → DataPort) (k : Line) : (s.modData f).link k = s.link k := rfl
@[simp] theorem State.modData_stationLine' (s : State) (f : DataPort → DataPort) (k : Line) : (s.modData f).stationLine k = s.stationLine k := rfl
@[simp] theorem State.modData_sched' (s : State) (f : DataPort → DataPort) (k : Line) : (s.modData f).sched k = s.sched k := rfl

@[simp] theorem State.post_inReset (s : State) (c : ResponseCode) (i : List Byte) : (s.post c i).inReset = s.inReset := rfl
@[simp] theorem State.post_straps (s : State) (c : ResponseCode) (i : List Byte) : (s.post c i).straps = s.straps := rfl
@[simp] theorem State.post_tick (s : State) (c : ResponseCode) (i : List Byte) : (s.post c i).tick = s.tick := rfl
@[simp] theorem State.post_tickLatch (s : State) (c : ResponseCode) (i : List Byte) : (s.post c i).tickLatch = s.tickLatch := rfl
@[simp] theorem State.post_slots (s : State) (c : ResponseCode) (i : List Byte) : (s.post c i).slots = s.slots := rfl
@[simp] theorem State.post_pool (s : State) (c : ResponseCode) (i : List Byte) : (s.post c i).pool = s.pool := rfl
@[simp] theorem State.post_engines (s : State) (c : ResponseCode) (i : List Byte) : (s.post c i).engines = s.engines := rfl
@[simp] theorem State.post_links (s : State) (c : ResponseCode) (i : List Byte) : (s.post c i).links = s.links := rfl
@[simp] theorem State.post_stations (s : State) (c : ResponseCode) (i : List Byte) : (s.post c i).stations = s.stations := rfl
@[simp] theorem State.post_scheds (s : State) (c : ResponseCode) (i : List Byte) : (s.post c i).scheds = s.scheds := rfl
@[simp] theorem State.post_queue (s : State) (c : ResponseCode) (i : List Byte) : (s.post c i).queue = s.queue := rfl
@[simp] theorem State.post_data (s : State) (c : ResponseCode) (i : List Byte) : (s.post c i).data = s.data := rfl
@[simp] theorem State.post_events (s : State) (c : ResponseCode) (i : List Byte) : (s.post c i).events = s.events := rfl
@[simp] theorem State.post_pins (s : State) (c : ResponseCode) (i : List Byte) : (s.post c i).pins = s.pins := rfl
@[simp] theorem State.post_dataBus (s : State) (c : ResponseCode) (i : List Byte) : (s.post c i).dataBus = s.dataBus := rfl
@[simp] theorem State.post_pending (s : State) (c : ResponseCode) (i : List Byte) : (s.post c i).pending = s.pending := rfl
@[simp] theorem State.post_slot' (s : State) (c : ResponseCode) (i : List Byte) (n : SlotNo) : (s.post c i).slot n = s.slot n := rfl
@[simp] theorem State.post_engine' (s : State) (c : ResponseCode) (i : List Byte) (k : Line) : (s.post c i).engine k = s.engine k := rfl
@[simp] theorem State.post_link' (s : State) (c : ResponseCode) (i : List Byte) (k : Line) : (s.post c i).link k = s.link k := rfl
@[simp] theorem State.post_stationLine' (s : State) (c : ResponseCode) (i : List Byte) (k : Line) : (s.post c i).stationLine k = s.stationLine k := rfl
@[simp] theorem State.post_sched' (s : State) (c : ResponseCode) (i : List Byte) (k : Line) : (s.post c i).sched k = s.sched k := rfl

@[simp] theorem State.setLost_inReset (s : State) : (s.setLost).inReset = s.inReset := rfl
@[simp] theorem State.setLost_straps (s : State) : (s.setLost).straps = s.straps := rfl
@[simp] theorem State.setLost_tick (s : State) : (s.setLost).tick = s.tick := rfl
@[simp] theorem State.setLost_tickLatch (s : State) : (s.setLost).tickLatch = s.tickLatch := rfl
@[simp] theorem State.setLost_slots (s : State) : (s.setLost).slots = s.slots := rfl
@[simp] theorem State.setLost_pool (s : State) : (s.setLost).pool = s.pool := rfl
@[simp] theorem State.setLost_engines (s : State) : (s.setLost).engines = s.engines := rfl
@[simp] theorem State.setLost_links (s : State) : (s.setLost).links = s.links := rfl
@[simp] theorem State.setLost_stations (s : State) : (s.setLost).stations = s.stations := rfl
@[simp] theorem State.setLost_scheds (s : State) : (s.setLost).scheds = s.scheds := rfl
@[simp] theorem State.setLost_queue (s : State) : (s.setLost).queue = s.queue := rfl
@[simp] theorem State.setLost_data (s : State) : (s.setLost).data = s.data := rfl
@[simp] theorem State.setLost_events (s : State) : (s.setLost).events = s.events := rfl
@[simp] theorem State.setLost_pins (s : State) : (s.setLost).pins = s.pins := rfl
@[simp] theorem State.setLost_dataBus (s : State) : (s.setLost).dataBus = s.dataBus := rfl
@[simp] theorem State.setLost_pending (s : State) : (s.setLost).pending = s.pending := rfl
@[simp] theorem State.setLost_slot' (s : State) (n : SlotNo) : (s.setLost).slot n = s.slot n := rfl
@[simp] theorem State.setLost_engine' (s : State) (k : Line) : (s.setLost).engine k = s.engine k := rfl
@[simp] theorem State.setLost_link' (s : State) (k : Line) : (s.setLost).link k = s.link k := rfl
@[simp] theorem State.setLost_stationLine' (s : State) (k : Line) : (s.setLost).stationLine k = s.stationLine k := rfl
@[simp] theorem State.setLost_sched' (s : State) (k : Line) : (s.setLost).sched k = s.sched k := rfl

@[simp] theorem State.raiseDmaEnd_inReset (s : State) : (s.raiseDmaEnd).inReset = s.inReset := rfl
@[simp] theorem State.raiseDmaEnd_straps (s : State) : (s.raiseDmaEnd).straps = s.straps := rfl
@[simp] theorem State.raiseDmaEnd_tick (s : State) : (s.raiseDmaEnd).tick = s.tick := rfl
@[simp] theorem State.raiseDmaEnd_tickLatch (s : State) : (s.raiseDmaEnd).tickLatch = s.tickLatch := rfl
@[simp] theorem State.raiseDmaEnd_slots (s : State) : (s.raiseDmaEnd).slots = s.slots := rfl
@[simp] theorem State.raiseDmaEnd_pool (s : State) : (s.raiseDmaEnd).pool = s.pool := rfl
@[simp] theorem State.raiseDmaEnd_engines (s : State) : (s.raiseDmaEnd).engines = s.engines := rfl
@[simp] theorem State.raiseDmaEnd_links (s : State) : (s.raiseDmaEnd).links = s.links := rfl
@[simp] theorem State.raiseDmaEnd_stations (s : State) : (s.raiseDmaEnd).stations = s.stations := rfl
@[simp] theorem State.raiseDmaEnd_scheds (s : State) : (s.raiseDmaEnd).scheds = s.scheds := rfl
@[simp] theorem State.raiseDmaEnd_queue (s : State) : (s.raiseDmaEnd).queue = s.queue := rfl
@[simp] theorem State.raiseDmaEnd_port (s : State) : (s.raiseDmaEnd).port = s.port := rfl
@[simp] theorem State.raiseDmaEnd_data (s : State) : (s.raiseDmaEnd).data = s.data := rfl
@[simp] theorem State.raiseDmaEnd_pins (s : State) : (s.raiseDmaEnd).pins = s.pins := rfl
@[simp] theorem State.raiseDmaEnd_dataBus (s : State) : (s.raiseDmaEnd).dataBus = s.dataBus := rfl
@[simp] theorem State.raiseDmaEnd_pending (s : State) : (s.raiseDmaEnd).pending = s.pending := rfl
@[simp] theorem State.raiseDmaEnd_slot' (s : State) (n : SlotNo) : (s.raiseDmaEnd).slot n = s.slot n := rfl
@[simp] theorem State.raiseDmaEnd_engine' (s : State) (k : Line) : (s.raiseDmaEnd).engine k = s.engine k := rfl
@[simp] theorem State.raiseDmaEnd_link' (s : State) (k : Line) : (s.raiseDmaEnd).link k = s.link k := rfl
@[simp] theorem State.raiseDmaEnd_stationLine' (s : State) (k : Line) : (s.raiseDmaEnd).stationLine k = s.stationLine k := rfl
@[simp] theorem State.raiseDmaEnd_sched' (s : State) (k : Line) : (s.raiseDmaEnd).sched k = s.sched k := rfl

@[simp] theorem State.raiseStuck_inReset (s : State) (l : Line) : (s.raiseStuck l).inReset = s.inReset := rfl
@[simp] theorem State.raiseStuck_straps (s : State) (l : Line) : (s.raiseStuck l).straps = s.straps := rfl
@[simp] theorem State.raiseStuck_tick (s : State) (l : Line) : (s.raiseStuck l).tick = s.tick := rfl
@[simp] theorem State.raiseStuck_tickLatch (s : State) (l : Line) : (s.raiseStuck l).tickLatch = s.tickLatch := rfl
@[simp] theorem State.raiseStuck_slots (s : State) (l : Line) : (s.raiseStuck l).slots = s.slots := rfl
@[simp] theorem State.raiseStuck_pool (s : State) (l : Line) : (s.raiseStuck l).pool = s.pool := rfl
@[simp] theorem State.raiseStuck_engines (s : State) (l : Line) : (s.raiseStuck l).engines = s.engines := rfl
@[simp] theorem State.raiseStuck_links (s : State) (l : Line) : (s.raiseStuck l).links = s.links := rfl
@[simp] theorem State.raiseStuck_stations (s : State) (l : Line) : (s.raiseStuck l).stations = s.stations := rfl
@[simp] theorem State.raiseStuck_scheds (s : State) (l : Line) : (s.raiseStuck l).scheds = s.scheds := rfl
@[simp] theorem State.raiseStuck_queue (s : State) (l : Line) : (s.raiseStuck l).queue = s.queue := rfl
@[simp] theorem State.raiseStuck_port (s : State) (l : Line) : (s.raiseStuck l).port = s.port := rfl
@[simp] theorem State.raiseStuck_data (s : State) (l : Line) : (s.raiseStuck l).data = s.data := rfl
@[simp] theorem State.raiseStuck_pins (s : State) (l : Line) : (s.raiseStuck l).pins = s.pins := rfl
@[simp] theorem State.raiseStuck_dataBus (s : State) (l : Line) : (s.raiseStuck l).dataBus = s.dataBus := rfl
@[simp] theorem State.raiseStuck_pending (s : State) (l : Line) : (s.raiseStuck l).pending = s.pending := rfl
@[simp] theorem State.raiseStuck_slot' (s : State) (l : Line) (n : SlotNo) : (s.raiseStuck l).slot n = s.slot n := rfl
@[simp] theorem State.raiseStuck_engine' (s : State) (l : Line) (k : Line) : (s.raiseStuck l).engine k = s.engine k := rfl
@[simp] theorem State.raiseStuck_link' (s : State) (l : Line) (k : Line) : (s.raiseStuck l).link k = s.link k := rfl
@[simp] theorem State.raiseStuck_stationLine' (s : State) (l : Line) (k : Line) : (s.raiseStuck l).stationLine k = s.stationLine k := rfl
@[simp] theorem State.raiseStuck_sched' (s : State) (l : Line) (k : Line) : (s.raiseStuck l).sched k = s.sched k := rfl

@[simp] theorem State.raiseOverrun_inReset (s : State) (l : Line) : (s.raiseOverrun l).inReset = s.inReset := rfl
@[simp] theorem State.raiseOverrun_straps (s : State) (l : Line) : (s.raiseOverrun l).straps = s.straps := rfl
@[simp] theorem State.raiseOverrun_tick (s : State) (l : Line) : (s.raiseOverrun l).tick = s.tick := rfl
@[simp] theorem State.raiseOverrun_tickLatch (s : State) (l : Line) : (s.raiseOverrun l).tickLatch = s.tickLatch := rfl
@[simp] theorem State.raiseOverrun_slots (s : State) (l : Line) : (s.raiseOverrun l).slots = s.slots := rfl
@[simp] theorem State.raiseOverrun_pool (s : State) (l : Line) : (s.raiseOverrun l).pool = s.pool := rfl
@[simp] theorem State.raiseOverrun_engines (s : State) (l : Line) : (s.raiseOverrun l).engines = s.engines := rfl
@[simp] theorem State.raiseOverrun_links (s : State) (l : Line) : (s.raiseOverrun l).links = s.links := rfl
@[simp] theorem State.raiseOverrun_stations (s : State) (l : Line) : (s.raiseOverrun l).stations = s.stations := rfl
@[simp] theorem State.raiseOverrun_scheds (s : State) (l : Line) : (s.raiseOverrun l).scheds = s.scheds := rfl
@[simp] theorem State.raiseOverrun_queue (s : State) (l : Line) : (s.raiseOverrun l).queue = s.queue := rfl
@[simp] theorem State.raiseOverrun_port (s : State) (l : Line) : (s.raiseOverrun l).port = s.port := rfl
@[simp] theorem State.raiseOverrun_data (s : State) (l : Line) : (s.raiseOverrun l).data = s.data := rfl
@[simp] theorem State.raiseOverrun_pins (s : State) (l : Line) : (s.raiseOverrun l).pins = s.pins := rfl
@[simp] theorem State.raiseOverrun_dataBus (s : State) (l : Line) : (s.raiseOverrun l).dataBus = s.dataBus := rfl
@[simp] theorem State.raiseOverrun_pending (s : State) (l : Line) : (s.raiseOverrun l).pending = s.pending := rfl
@[simp] theorem State.raiseOverrun_slot' (s : State) (l : Line) (n : SlotNo) : (s.raiseOverrun l).slot n = s.slot n := rfl
@[simp] theorem State.raiseOverrun_engine' (s : State) (l : Line) (k : Line) : (s.raiseOverrun l).engine k = s.engine k := rfl
@[simp] theorem State.raiseOverrun_link' (s : State) (l : Line) (k : Line) : (s.raiseOverrun l).link k = s.link k := rfl
@[simp] theorem State.raiseOverrun_stationLine' (s : State) (l : Line) (k : Line) : (s.raiseOverrun l).stationLine k = s.stationLine k := rfl
@[simp] theorem State.raiseOverrun_sched' (s : State) (l : Line) (k : Line) : (s.raiseOverrun l).sched k = s.sched k := rfl

@[simp] theorem State.lend_inReset (s : State) (q : Nat) : (s.lend q).inReset = s.inReset := rfl
@[simp] theorem State.lend_straps (s : State) (q : Nat) : (s.lend q).straps = s.straps := rfl
@[simp] theorem State.lend_tick (s : State) (q : Nat) : (s.lend q).tick = s.tick := rfl
@[simp] theorem State.lend_tickLatch (s : State) (q : Nat) : (s.lend q).tickLatch = s.tickLatch := rfl
@[simp] theorem State.lend_slots (s : State) (q : Nat) : (s.lend q).slots = s.slots := rfl
@[simp] theorem State.lend_engines (s : State) (q : Nat) : (s.lend q).engines = s.engines := rfl
@[simp] theorem State.lend_links (s : State) (q : Nat) : (s.lend q).links = s.links := rfl
@[simp] theorem State.lend_stations (s : State) (q : Nat) : (s.lend q).stations = s.stations := rfl
@[simp] theorem State.lend_scheds (s : State) (q : Nat) : (s.lend q).scheds = s.scheds := rfl
@[simp] theorem State.lend_queue (s : State) (q : Nat) : (s.lend q).queue = s.queue := rfl
@[simp] theorem State.lend_port (s : State) (q : Nat) : (s.lend q).port = s.port := rfl
@[simp] theorem State.lend_data (s : State) (q : Nat) : (s.lend q).data = s.data := rfl
@[simp] theorem State.lend_events (s : State) (q : Nat) : (s.lend q).events = s.events := rfl
@[simp] theorem State.lend_pins (s : State) (q : Nat) : (s.lend q).pins = s.pins := rfl
@[simp] theorem State.lend_dataBus (s : State) (q : Nat) : (s.lend q).dataBus = s.dataBus := rfl
@[simp] theorem State.lend_pending (s : State) (q : Nat) : (s.lend q).pending = s.pending := rfl
@[simp] theorem State.lend_slot' (s : State) (q : Nat) (n : SlotNo) : (s.lend q).slot n = s.slot n := rfl
@[simp] theorem State.lend_engine' (s : State) (q : Nat) (k : Line) : (s.lend q).engine k = s.engine k := rfl
@[simp] theorem State.lend_link' (s : State) (q : Nat) (k : Line) : (s.lend q).link k = s.link k := rfl
@[simp] theorem State.lend_stationLine' (s : State) (q : Nat) (k : Line) : (s.lend q).stationLine k = s.stationLine k := rfl
@[simp] theorem State.lend_sched' (s : State) (q : Nat) (k : Line) : (s.lend q).sched k = s.sched k := rfl

@[simp] theorem State.drive_inReset (s : State) : (s.drive).inReset = s.inReset := rfl
@[simp] theorem State.drive_straps (s : State) : (s.drive).straps = s.straps := rfl
@[simp] theorem State.drive_tick (s : State) : (s.drive).tick = s.tick := rfl
@[simp] theorem State.drive_tickLatch (s : State) : (s.drive).tickLatch = s.tickLatch := rfl
@[simp] theorem State.drive_slots (s : State) : (s.drive).slots = s.slots := rfl
@[simp] theorem State.drive_pool (s : State) : (s.drive).pool = s.pool := rfl
@[simp] theorem State.drive_engines (s : State) : (s.drive).engines = s.engines := rfl
@[simp] theorem State.drive_links (s : State) : (s.drive).links = s.links := rfl
@[simp] theorem State.drive_stations (s : State) : (s.drive).stations = s.stations := rfl
@[simp] theorem State.drive_scheds (s : State) : (s.drive).scheds = s.scheds := rfl
@[simp] theorem State.drive_queue (s : State) : (s.drive).queue = s.queue := rfl
@[simp] theorem State.drive_port (s : State) : (s.drive).port = s.port := rfl
@[simp] theorem State.drive_data (s : State) : (s.drive).data = s.data := rfl
@[simp] theorem State.drive_events (s : State) : (s.drive).events = s.events := rfl
@[simp] theorem State.drive_dataBus (s : State) : (s.drive).dataBus = s.dataBus := rfl
@[simp] theorem State.drive_pending (s : State) : (s.drive).pending = s.pending := rfl
@[simp] theorem State.drive_slot' (s : State) (n : SlotNo) : (s.drive).slot n = s.slot n := rfl
@[simp] theorem State.drive_engine' (s : State) (k : Line) : (s.drive).engine k = s.engine k := rfl
@[simp] theorem State.drive_link' (s : State) (k : Line) : (s.drive).link k = s.link k := rfl
@[simp] theorem State.drive_stationLine' (s : State) (k : Line) : (s.drive).stationLine k = s.stationLine k := rfl
@[simp] theorem State.drive_sched' (s : State) (k : Line) : (s.drive).sched k = s.sched k := rfl

/-! ### An update through a function is a replacement -/

@[simp] theorem State.modSlot_eq (s : State) (m : SlotNo) (f : Slot → Slot) : s.modSlot m f = s.setSlot m (f (s.slot m)) := rfl
@[simp] theorem State.modEngine_eq (s : State) (m : Line) (f : Engine → Engine) : s.modEngine m f = s.setEngine m (f (s.engine m)) := rfl
@[simp] theorem State.modLink_eq (s : State) (m : Line) (f : Link → Link) : s.modLink m f = s.setLink m (f (s.link m)) := rfl
@[simp] theorem State.modSched_eq (s : State) (m : Line) (f : Scheduler → Scheduler) : s.modSched m f = s.setSched m (f (s.sched m)) := rfl
@[simp] theorem State.modEntry_eq (s : State) (l : Line) (e : EntryNo) (f : PollEntry → PollEntry) :
    s.modEntry l e f = s.setSched l { s.sched l with entries := (s.sched l).entries.put e (f (s.entry l e)) } := rfl

/-! ### The field that an update writes -/

@[simp] theorem State.setSlot_slots (s : State) (m : SlotNo) (x : Slot) : (s.setSlot m x).slots = s.slots.put m x := rfl
@[simp] theorem State.setEngine_engines (s : State) (l : Line) (x : Engine) :
    (s.setEngine l x).engines = s.engines.put l x := rfl
@[simp] theorem State.setLink_links (s : State) (l : Line) (x : Link) : (s.setLink l x).links = s.links.put l x := rfl
@[simp] theorem State.setStationLine_stations (s : State) (l : Line) (x : StationLine) :
    (s.setStationLine l x).stations = s.stations.put l x := rfl
@[simp] theorem State.setSched_scheds (s : State) (l : Line) (x : Scheduler) :
    (s.setSched l x).scheds = s.scheds.put l x := rfl
@[simp] theorem State.modData_data (s : State) (f : DataPort → DataPort) : (s.modData f).data = f s.data := rfl
@[simp] theorem State.setLost_port (s : State) : s.setLost.port = { s.port with lost := true } := rfl
@[simp] theorem State.post_port (s : State) (c : ResponseCode) (i : List Byte) :
    (s.post c i).port = { s.port with state := .respond, opcode := none, params := [], loading := none,
                                      response := some { code := c, info := i }, position := 0 } := rfl
@[simp] theorem State.drive_pins (s : State) : s.drive.pins = s.drivenPins := rfl

/-! ### The reset state -/

@[simp] theorem State.reset_slot (n : SlotNo) : State.reset.slot n = Slot.cleared := by
  simp [State.reset, State.resetWith, State.slot]

@[simp] theorem State.reset_engine (l : Line) : State.reset.engine l = Engine.reset (Config.strapsAtReset.getLsb l) := by
  simp [State.reset, State.resetWith, State.engine]

@[simp] theorem State.reset_link (l : Line) : State.reset.link l = Link.reset := by
  simp [State.reset, State.resetWith, State.link]

@[simp] theorem State.reset_stationLine (l : Line) : State.reset.stationLine l = StationLine.reset := by
  simp [State.reset, State.resetWith, State.stationLine]

@[simp] theorem State.reset_sched (l : Line) : State.reset.sched l = Scheduler.reset := by
  simp [State.reset, State.resetWith, State.sched]

end Machine

end Sys2Proof
end

