-- ==== Sys2Proof/Laws/Memory.lean ====
section
/-! SUPPORT. The laws of the payload memory: every write keeps the canonical form, a read after a write to the same
address gives the value written, and a write leaves every other address alone; and what that says of the bytes of a
chain (R45, R50). -/

namespace Sys2Proof.Machine

theorem Memory.wfFrom_mono {lo hi : Nat} (h : lo ≤ hi) : ∀ {m : Memory}, Memory.wfFrom hi m = true →
    Memory.wfFrom lo m = true
  | [], _ => rfl
  | (k, v) :: m, hm => by
    simp only [Memory.wfFrom, Bool.and_eq_true, decide_eq_true_eq] at hm ⊢
    exact ⟨⟨⟨by omega, hm.1.1.2⟩, hm.1.2⟩, hm.2⟩

/-- A write keeps the canonical form above any bound that the address respects. -/
theorem Memory.wfFrom_write {a : Nat} (ha : a < poolBytes) (b : Byte) : ∀ {lo : Nat} {m : Memory}, lo ≤ a →
    Memory.wfFrom lo m = true → Memory.wfFrom lo (Memory.write m a b) = true
  | lo, [], hlo, _ => by
    by_cases hb : b = 0#8 <;> simp [Memory.write, Memory.wfFrom, hb, hlo, ha]
  | lo, (k, v) :: m, hlo, hm => by
    simp only [Memory.wfFrom, Bool.and_eq_true, decide_eq_true_eq, bne_iff_ne] at hm
    obtain ⟨⟨⟨h1, h2⟩, h3⟩, h4⟩ := hm
    unfold Memory.write
    split
    · split
      · simp [Memory.wfFrom, h1, h2, h3, h4]
      · have hk : a + 1 ≤ k := by omega
        rename_i hb
        simp [Memory.wfFrom, hlo, ha, hb, h2, h3, h4, hk]
    · split
      · split
        · exact Memory.wfFrom_mono (by omega) h4
        · rename_i _ hk hb
          subst hk
          simp [Memory.wfFrom, h1, h2, hb, h4]
      · have hk : k + 1 ≤ a := by omega
        have ih := Memory.wfFrom_write ha b hk h4
        simp [Memory.wfFrom, h1, h2, h3, ih]

/-- Every write below the pool's size keeps the canonical form. -/
theorem Memory.wf_write {m : Memory} {a : Nat} (b : Byte) (ha : a < poolBytes) (h : Memory.wf m = true) :
    Memory.wf (Memory.write m a b) = true :=
  Memory.wfFrom_write ha b (Nat.zero_le a) h

/-- The memory of the reset state has the canonical form. -/
theorem Memory.wf_reset : Memory.wf State.reset.pool.mem = true := rfl

/-- Below the bound of a canonical memory every address reads 0. -/
theorem Memory.read_below : ∀ {lo a : Nat} {m : Memory}, a < lo → Memory.wfFrom lo m = true → Memory.read m a = 0
  | _, _, [], _, _ => rfl
  | lo, a, (k, v) :: m, h, hm => by
    simp only [Memory.wfFrom, Bool.and_eq_true, decide_eq_true_eq] at hm
    have hk : k ≠ a := by omega
    simp [Memory.read, hk, Memory.read_below (lo := k + 1) (a := a) (by omega) hm.2]

/-- What a read gives after a write, at any address. -/
theorem Memory.read_write {a : Nat} (b : Byte) (x : Nat) : ∀ {lo : Nat} {m : Memory}, Memory.wfFrom lo m = true →
    Memory.read (Memory.write m a b) x = if x = a then b else Memory.read m x
  | _, [], _ => by
    by_cases hx : x = a
    · by_cases hb : b = 0#8 <;> simp [Memory.write, Memory.read, hb, hx]
    · have ha : a ≠ x := Ne.symm hx
      by_cases hb : b = 0#8 <;> simp [Memory.write, Memory.read, hb, hx, ha]
  | lo, (k, v) :: m, hm => by
    simp only [Memory.wfFrom, Bool.and_eq_true, decide_eq_true_eq] at hm
    obtain ⟨⟨⟨_, _⟩, _⟩, h4⟩ := hm
    unfold Memory.write
    by_cases hx : x = a
    · subst hx
      have below : k + 1 > x → Memory.read m x = 0 := fun h => Memory.read_below h h4
      split
      · have hk : k ≠ x := by omega
        by_cases hb : b = 0#8 <;> simp [Memory.read, hb, hk]
        exact below (by omega)
      · split
        · by_cases hb : b = 0#8 <;> simp [Memory.read, hb]
          exact below (by omega)
        · have hk : k ≠ x := by omega
          simp [Memory.read, hk, Memory.read_write b x h4]
    · have ha : a ≠ x := Ne.symm hx
      split
      · by_cases hb : b = 0#8 <;> simp [Memory.read, hb, ha]
      · split
        · rename_i _ hk
          have hk : k ≠ x := by omega
          by_cases hb : b = 0#8 <;> simp [Memory.read, hb, ha, hk]
        · by_cases hk : k = x <;> simp [Memory.read, hk, hx, Memory.read_write b x h4]

/-- A read after a write to the same address gives the value written. -/
theorem Memory.read_write_same {m : Memory} (h : Memory.wf m = true) (a : Nat) (b : Byte) :
    Memory.read (Memory.write m a b) a = b := by simp [Memory.read_write b a h]

/-- A write leaves every other address alone. -/
theorem Memory.read_write_ne {m : Memory} (h : Memory.wf m = true) {a x : Nat} (b : Byte) (hx : x ≠ a) :
    Memory.read (Memory.write m a b) x = Memory.read m x := by simp [Memory.read_write b x h, hx]

/-- The address of a chain's byte lies in the pool (R50). -/
theorem chainAddress_lt {chain : List BlockNo} {i a : Nat} (h : chainAddress chain i = some a) : a < poolBytes := by
  simp only [chainAddress, Option.map_eq_some_iff] at h
  obtain ⟨b, _, rfl⟩ := h
  have := b.isLt
  unfold poolBytes
  omega

/-- Writing a byte of a chain keeps the canonical form. -/
theorem State.putChainByte_wf (s : State) (chain : List BlockNo) (i : Nat) (b : Byte)
    (h : Memory.wf s.pool.mem = true) : Memory.wf (s.putChainByte chain i b).pool.mem = true := by
  unfold State.putChainByte
  split
  · rename_i a ha
    exact Memory.wf_write b (chainAddress_lt ha) h
  · exact h

/-- Writing a byte of a chain changes the memory alone. -/
theorem State.putChainByte_eq (s : State) (chain : List BlockNo) (i : Nat) (b : Byte) :
    s.putChainByte chain i b = { s with pool := { s.pool with mem := (s.putChainByte chain i b).pool.mem } } := by
  unfold State.putChainByte
  split <;> rfl

/-- What every address reads as after a byte of a chain is written. -/
theorem State.putChainByte_read (s : State) (chain : List BlockNo) (i : Nat) (b : Byte)
    (h : Memory.wf s.pool.mem = true) (x : Nat) :
    Memory.read (s.putChainByte chain i b).pool.mem x =
      if chainAddress chain i = some x then b else Memory.read s.pool.mem x := by
  unfold State.putChainByte
  split
  · rename_i a ha
    simp [ha, Memory.read_write b x h, eq_comm]
  · rename_i ha
    simp [ha]

end Sys2Proof.Machine
end

