-- ==== Sys2Proof/Laws/Ops.lean ====
section
/-! SUPPORT. What each shared operation can do, said once: the equation of a station update, of a creation and a return of
blocks, of a place in a pending queue, of a completion and a retirement. A frame lemma writes the result as the old state
with the fields that the operation may change. -/

namespace Sys2Proof.Machine

/-! ### Stations (R87, R95) -/

/-- An update of station 0 changes nothing. -/
@[simp] theorem State.updateStation_zero (s : State) (l : Line) (f : Station → Station) : s.updateStation l 0 f = s := rfl

/-- A station update writes the Station Table alone. -/
theorem State.updateStation_frame (s : State) (l : Line) (a : StationAddr) (f : Station → Station) :
    s.updateStation l a f = { s with stations := (s.updateStation l a f).stations } := by
  unfold State.updateStation
  split <;> rfl

/-- The record of a station after an update, at any line and station. -/
theorem State.updateStation_look (s : State) (l k : Line) (a : StationAddr) (f : Station → Station) (i : Fin 31) :
    ((s.updateStation l a f).stationLine k).records.look i =
      if l = k ∧ stationIndex a = some i then f (s.station l a) else (s.stationLine k).records.look i := by
  unfold State.updateStation
  split
  · rename_i h
    simp [h]
  · rename_i j h
    by_cases hl : l = k
    · subst hl
      simp [h, Table.look_put]
    · simp [h, hl, State.setStationLine_stationLine]

/-- The change set of a line after an update: the station joins when its derived state crosses the OFFLINE boundary. -/
theorem State.updateStation_changes (s : State) (l : Line) (a : StationAddr) (f : Station → Station) (ha : a.val ≠ 0) :
    ((s.updateStation l a f).stationLine l).changes =
      if crossesOffline ((s.station l a).derived (s.threshold l)) ((f (s.station l a)).derived (s.threshold l)) then
        (s.stationLine l).changes ||| stationBit a
      else (s.stationLine l).changes := by
  unfold State.updateStation
  simp [stationIndex, ha]

/-- Making a station UNSYNC never crosses the OFFLINE boundary: the derived state does not read sync (R88). -/
@[simp] theorem Station.unsynced_derived (x : Station) (n : Nat) : x.unsynced.derived n = x.derived n := rfl

/-! ### Slots and blocks (R20, R23, R47, R49) -/

/-- A creation writes one slot, the free list and the least free count. -/
theorem State.create_frame (s : State) (n : SlotNo) (x : Slot) :
    s.create n x =
      { s with slots := (s.create n x).slots,
               pool := { s.pool with free := s.pool.free.drop (blocksFor x.requestLength + blocksFor x.replyRoom),
                                     leastFree := (s.create n x).pool.leastFree } } := rfl

/-- The slot that a creation makes: its record, with the head of the free list as its chains. -/
@[simp] theorem State.create_slot_same (s : State) (n : SlotNo) (x : Slot) :
    (s.create n x).slot n =
      { x with requestChain := s.pool.free.take (blocksFor x.requestLength),
               replyChain := (s.pool.free.drop (blocksFor x.requestLength)).take (blocksFor x.replyRoom) } := by
  simp [State.create]

/-- A creation leaves every other slot alone. -/
theorem State.create_slot_ne (s : State) (n : SlotNo) (x : Slot) {m : SlotNo} (h : n ≠ m) :
    (s.create n x).slot m = s.slot m := by
  simp [State.create, State.setSlot_slot_ne _ _ _ h]

/-- Freeing a slot writes its cleared record and puts its blocks at the tail of the free list. -/
theorem State.freeSlot_eq (s : State) (n : SlotNo) :
    s.freeSlot n =
      { s with slots := s.slots.put n Slot.cleared,
               pool := { s.pool with free := s.pool.free ++ (s.slot n).requestChain ++ (s.slot n).replyChain } } := rfl

@[simp] theorem State.freeSlot_slot_same (s : State) (n : SlotNo) : (s.freeSlot n).slot n = Slot.cleared := by
  simp [State.freeSlot]

theorem State.freeSlot_slot_ne (s : State) (n : SlotNo) {m : SlotNo} (h : n ≠ m) : (s.freeSlot n).slot m = s.slot m := by
  simp [State.freeSlot, State.setSlot, State.slot, Table.look_put_ne _ _ h]

/-- The lowest FREE slot is FREE. -/
theorem State.lowestFree_isFree {s : State} {n : SlotNo} (h : s.lowestFree = some n) : (s.slot n).state = .free := by
  have := List.find?_some h
  simpa [Slot.isFree] using this

/-! ### Pending queues (R29, R32, R66) -/

/-- Joining a queue writes one slot's state and one engine's queue. -/
theorem State.joinTail_eq (s : State) (n : SlotNo) :
    s.joinTail n =
      (s.setSlot n { s.slot n with state := .queued }).setEngine (s.slot n).line
        { s.engine (s.slot n).line with
          queue := s.atTailOfClass (s.engine (s.slot n).line).queue n } := rfl

theorem State.joinHead_eq (s : State) (n : SlotNo) :
    s.joinHead n =
      (s.setSlot n { s.slot n with state := .queued }).setEngine (s.slot n).line
        { s.engine (s.slot n).line with
          queue := s.atHeadOfClass (s.engine (s.slot n).line).queue n } := rfl

/-- A queue with a slot placed at the tail of its class holds the slot and what it held. -/
theorem State.mem_atTailOfClass (s : State) (q : List SlotNo) (n m : SlotNo) :
    m ∈ s.atTailOfClass q n ↔ m = n ∨ m ∈ q := by
  have h := List.takeWhile_append_dropWhile (p := fun m => decide (s.rankOf m ≤ s.rankOf n)) (l := q)
  conv_rhs => rw [← h]
  simp only [State.atTailOfClass, List.mem_append, List.mem_cons]
  tauto

/-- A queue with a slot placed at the head of its class holds the slot and what it held. -/
theorem State.mem_atHeadOfClass (s : State) (q : List SlotNo) (n m : SlotNo) :
    m ∈ s.atHeadOfClass q n ↔ m = n ∨ m ∈ q := by
  have h := List.takeWhile_append_dropWhile (p := fun m => decide (s.rankOf m < s.rankOf n)) (l := q)
  conv_rhs => rw [← h]
  simp only [State.atHeadOfClass, List.mem_append, List.mem_cons]
  tauto

/-! ### The end of a transaction (R35, R43) -/

/-- An append writes the record list, the header position of an empty list and the hold state. -/
theorem State.appendRecord_frame (s : State) (r : Record) :
    s.appendRecord r =
      { s with queue := { s.queue with records := s.queue.records ++ [r],
                                       headerPos := if s.queue.records = [] then 0 else s.queue.headerPos,
                                       hold := (s.appendRecord r).queue.hold } } := rfl

/-- The desynchronization rule writes the Station Table alone. -/
theorem State.desync_frame (s : State) (n : SlotNo) (o : TransactionOutcome) :
    s.desync n o = { s with stations := (s.desync n o).stations } := by
  unfold State.desync
  split
  · exact State.updateStation_frame _ _ _ _
  · rfl

/-- What a completion may change: slots, the free list, the Station Table, the poll entries, and the Completion Queue's
records, header position and hold state. -/
theorem State.complete_frame (s : State) (n : SlotNo) (o : TransactionOutcome) :
    s.complete n o =
      { s with slots := (s.complete n o).slots, pool := { s.pool with free := (s.complete n o).pool.free },
               stations := (s.complete n o).stations, scheds := (s.complete n o).scheds,
               queue := { s.queue with records := (s.complete n o).queue.records,
                                       headerPos := (s.complete n o).queue.headerPos,
                                       hold := (s.complete n o).queue.hold } } := by
  unfold State.complete
  obtain ⟨st, hd⟩ : ∃ st, (s.modSlot n fun x => { x with outcome := some o, doneTime := s.tick }).desync n o =
      { (s.modSlot n fun x => { x with outcome := some o, doneTime := s.tick }) with stations := st } :=
    ⟨_, State.desync_frame _ _ _⟩
  simp only [hd]
  unfold State.handOn
  split
  · rfl
  · unfold State.pollHandOn
    dsimp only
    split
    · split <;> rfl
    · rfl

/-- What completions of several slots may change. -/
theorem State.completeAll_frame (ns : List SlotNo) (o : TransactionOutcome) (s : State) :
    s.completeAll ns o =
      { s with slots := (s.completeAll ns o).slots, pool := { s.pool with free := (s.completeAll ns o).pool.free },
               stations := (s.completeAll ns o).stations, scheds := (s.completeAll ns o).scheds,
               queue := { s.queue with records := (s.completeAll ns o).queue.records,
                                       headerPos := (s.completeAll ns o).queue.headerPos,
                                       hold := (s.completeAll ns o).queue.hold } } := by
  induction ns generalizing s with
  | nil => rfl
  | cons n ns ih =>
    have e : s.completeAll (n :: ns) o = (s.complete n o).completeAll ns o := rfl
    obtain ⟨a, b, c, d, f, g, h, h2⟩ : ∃ a b c d f g h, s.complete n o =
        { s with slots := a, pool := { s.pool with free := b }, stations := c, scheds := d,
                 queue := { s.queue with records := f, headerPos := g, hold := h } } :=
      ⟨_, _, _, _, _, _, _, State.complete_frame s n o⟩
    rw [e, h2]
    exact ih _

/-- What a retirement may change: slots, the free list, the poll entries and the Completion Queue. -/
theorem State.retireHead_frame (s : State) :
    s.retireHead =
      { s with slots := s.retireHead.slots, pool := { s.pool with free := s.retireHead.pool.free },
               scheds := s.retireHead.scheds,
               queue := { s.queue with records := s.queue.records.tail, headerPos := s.retireHead.queue.headerPos,
                                       hold := s.retireHead.queue.hold } } := by
  unfold State.retireHead
  split
  · rename_i h
    simp [h]
    rw [← h]
  · dsimp only
    split <;> rfl

/-! ### The quiet time and SETTLE (R5, R82) -/

/-- No more bit positions read mark than there are. -/
theorem marksAtEnd_le (n : Nat) (mark : Nat → Bool) : marksAtEnd n mark ≤ n := by
  unfold marksAtEnd
  exact le_trans (List.takeWhile_sublist _).length_le (by simp)

/-- A stop bit that read space leaves no mark at the end of a character. -/
theorem marksAtEnd_of_space {n : Nat} {mark : Nat → Bool} (h : mark n = false) : marksAtEnd (n + 1) mark = 0 := by
  simp [marksAtEnd, List.range_succ, h]

/-- All positions read mark exactly if every one does. -/
theorem marksAtEnd_eq_iff (n : Nat) (mark : Nat → Bool) : marksAtEnd n mark = n ↔ ∀ i < n, mark i = true := by
  have h := List.takeWhile_prefix (p := mark) (l := (List.range n).reverse)
  unfold marksAtEnd
  constructor
  · intro e i hi
    have := List.takeWhile_eq_self_iff.mp (h.eq_of_length (by simpa using e)) i (by simpa using hi)
    simpa using this
  · intro e
    rw [List.takeWhile_eq_self_iff.mpr (fun i hi => e i (by simpa using hi))]
    simp

/-- Everything `Link.heardBack` does: over a read-back of mark alone the quiet time runs on, else it is the mark at the end. -/
theorem Link.heardBack_eq (lk : Link) (readBack : BitVec 11) :
    lk.heardBack readBack =
      { lk with quietTime := if readBack = BitVec.allOnes 11 then lk.quietTime + 11
                             else marksAtEnd 11 readBack.getLsbD } := by
  have h : marksAtEnd 11 readBack.getLsbD = 11 ↔ readBack = BitVec.allOnes 11 := by
    rw [marksAtEnd_eq_iff]
    exact ⟨fun e => BitVec.eq_of_getLsbD_eq fun i hi => by rw [e i hi, BitVec.getLsbD_allOnes, decide_eq_true hi],
      fun e i hi => by rw [e, BitVec.getLsbD_allOnes, decide_eq_true hi]⟩
  simp [Link.heardBack, h]

/-- What an entry to SETTLE may change of an engine: mode and drain kind, state, timers, stuck raised and gap watch. -/
theorem Engine.settle_frame (e : Engine) (quiet : Nat) :
    e.settle quiet =
      { e with mode := (e.settle quiet).mode, drainKind := (e.settle quiet).drainKind, state := (e.settle quiet).state,
               leadTimer := (e.settle quiet).leadTimer, holdTimer := (e.settle quiet).holdTimer,
               replyTimer := (e.settle quiet).replyTimer, stuckTimer := (e.settle quiet).stuckTimer,
               stuckRaised := false, gapWatch := (e.settle quiet).gapWatch } := by
  unfold Engine.settle Engine.leaveSettle
  dsimp only
  split
  · rfl
  · split
    · split
      · rfl
      · split <;> rfl
    · rfl

/-- An entry to SETTLE on a line not yet quiet for the settle gap, of an engine that need not go OFF, stays in SETTLE. -/
theorem Engine.settle_of_not_quiet {e : Engine} {quiet : Nat} (hm : e.mode ≠ .draining) (hq : quiet < e.config.settleGap) :
    e.settle quiet = { e with state := .settle, stuckTimer := some stuckLimit, stuckRaised := false } := by
  simp [Engine.settle, hm, Nat.not_le.mpr hq]

/-! ### The actions of CONTROL (R142, R130, R184) -/

/-- What ABORT_CMD may change: slots, the free list, the Command Port and the Data Port. -/
theorem State.abort_frame (s : State) :
    s.abort =
      { s with slots := s.abort.slots, pool := { s.pool with free := s.abort.pool.free }, port := s.abort.port,
               data := s.abort.data } := by
  unfold State.abort State.intakeAbandoned
  cases s.port.state <;> cases s.port.loading <;> rfl

/-- What DISCARD_HEAD may change: slots, the free list, the poll entries, the Completion Queue and the Data Port. -/
theorem State.discard_frame (s : State) :
    s.discard =
      { s with slots := s.discard.slots, pool := { s.pool with free := s.discard.pool.free },
               scheds := s.discard.scheds, queue := s.discard.queue, data := s.discard.data } := by
  unfold State.discard
  split
  · rfl
  · rw [State.retireHead_frame]
    rfl

/-- While the reset input is active every read returns 0 and changes nothing (R185). -/
theorem State.readAt_of_inReset {s : State} (h : s.inReset = true) (offset : Fin 8) : s.readAt offset = (0, s) := by
  simp [State.readAt, h]

/-- While the reset input is active every write is ignored (R185). -/
theorem State.writeAt_of_inReset {s : State} (h : s.inReset = true) (offset : Fin 8) (b : Byte) :
    s.writeAt offset b = s := by
  simp [State.writeAt, h]

end Sys2Proof.Machine
end

