-- ==== Sys2Proof/Tests/Slice0.lean ====
section
/-! SUPPORT. Tests of the model on small states, each by evaluation. The expected values come from the manual: its worked
values, its tables, or a hand calculation from the rule named. The last part shows, for every obligation that has
hypotheses, states and operands that meet them, clause by clause. -/

namespace Sys2Proof.Tests

open Sys2Proof Sys2Proof.Machine

set_option maxRecDepth 100000

/-! ### Small states -/

/-- The state after a command. -/
def after (c : Instr) (s : State) : State :=
  match exec c s with
  | .next t => t
  | _ => s

/-- A state with the port in COLLECT for an opcode, holding parameter bytes. -/
def collecting (op : Opcode) (ps : List Byte) (s : State := State.reset) : State :=
  { s with port := { s.port with state := .collect, opcode := some op, params := ps } }

/-- The state after the last parameter byte of a command. -/
def command (op : Opcode) (ps : List Byte) (last : Byte) (s : State := State.reset) : State :=
  after (commandRow op ps last) (collecting op ps s)

/-- A state with the engine of line 0 changed. -/
def withEngine (f : Engine → Engine) (s : State := State.reset) : State := s.setEngine 0 (f (s.engine 0))

/-- A state with the link of line 0 changed. -/
def withLink (f : Link → Link) (s : State := State.reset) : State := s.setLink 0 (f (s.link 0))

/-- A HOST slot to station 5 of line 0. -/
def hostSlot (state : SlotState) : Slot := { Slot.cleared with state := state, station := 5 }

/-- The POLL slot of entry 2 of line 0, to station 7. -/
def pollSlot (state : SlotState) : Slot :=
  { Slot.cleared with state := state, origin := .poll, station := 7, cls := .poll, tag := 2, requestLength := 1,
                      requestChain := [0] }

/-- Line 0 ON and IDLE. -/
def lineOn (s : State := State.reset) : State := withEngine (fun e => { e with mode := .on, state := .idle }) s

/-- Line 0 in another mode. -/
def lineIn (m : LineMode) (s : State := State.reset) : State := withEngine (fun e => { e with mode := m }) s

/-- Line 0 ON with slot 3, to station 5, active. -/
def active (state : EngineState) (phase : Phase := .request) (x : Slot := hostSlot .active) : State :=
  withEngine (fun e => { e with mode := .on, state := state, active := some 3, phase := some phase })
    (State.reset.setSlot 3 x)

/-- Line 0 with slot 3 active in GUARD, the lead timer running. -/
def guarded (phase : Phase := .request) : State := withEngine (fun e => { e with leadTimer := some 2 }) (active .guard phase)

/-- Line 0 sending character k of a frame, a byte of data with marker 0. -/
def sending (k : Nat) (phase : Phase := .request) (hold : Nat := 2) (x : Slot := hostSlot .active) : State :=
  withEngine (fun e => { e with config := { e.config with turnaroundHold := hold } })
    (withLink (fun y => { y with transmitter := .sending 0x42 false 1 [], sendCount := k }) (active .transmit phase x))

/-- Line 0 in TURNAROUND with the hold timer running. -/
def holding (phase : Phase := .request) (x : Slot := hostSlot .active) : State :=
  withEngine (fun e => { e with holdTimer := some 2 }) (active .turnaround phase x)

/-- Line 0 waiting for a reply. -/
def awaiting : State := withEngine (fun e => { e with replyTimer := some 220 }) (active .await)

/-- Line 0 receiving a reply of which `count` characters were taken, the length character saying `length`. -/
def receiving (count : Nat) (length : Byte := 0) (phase : Phase := .request) (receiver : Receiver := .armed) : State :=
  withLink (fun k => { k with charCount := count, length := length, receiver := receiver }) (active .receive phase)

/-- A received character (R3): stop, marker, data. -/
def char (stop marker : Bool) (data : Byte) : BitVec 10 := BitVec.ofBool stop ++ BitVec.ofBool marker ++ data

/-- Line 0 in SETTLE. -/
def settlingLine (s : State := State.reset) : State :=
  withEngine (fun e => { e with mode := .on, state := .settle, stuckTimer := some 704 }) s

/-- Slot 3 DONE with a reply of four bytes in block 0, its record at the head of the list. -/
def recorded (headerPos : Nat := 0) : State :=
  { State.reset.setSlot 3 { hostSlot .done with replyRoom := 16, replyChain := [0], replyLength := some 4,
                                                outcome := some .ok } with
    queue := { CompletionQueue.reset with records := [⟨3, .transaction, .online⟩], headerPos := headerPos } }

/-- The payload of slot 3 under way, `moved` of its 4 bytes delivered. -/
def outflow (moved : Nat) : State :=
  { recorded 10 with data := { DataPort.reset with owner := .outflow, outflow := some ⟨4, 3⟩, moved := moved } }

/-- A SUBMIT of 20 bytes on line 0 in PAYLOAD, `moved` of them in: slot 3 LOADING with blocks 0 and 1. -/
def intake (moved : Nat) : State :=
  { State.reset.setSlot 3 { hostSlot .loading with requestLength := 20, requestChain := [0, 1] } with
    port := { CommandPort.reset with state := .payload, opcode := some .submit, loading := some 3 },
    data := { DataPort.reset with owner := .intake, intake := some ⟨20, true⟩, moved := moved } }

/-- Slot 3 DONE at the head of the list with block 0, its OUTFLOW the owner, and slot 5 LOADING with block 1, its INTAKE
waiting. -/
def doneAndLoading : State :=
  let s := (outflow 2).setSlot 5 { hostSlot .loading with requestLength := 16, requestChain := [1] }
  { s with pool := { s.pool with free := s.pool.free.drop 2 },
           port := { CommandPort.reset with state := .payload, opcode := some .submit, loading := some 5 },
           data := { s.data with intake := some ⟨16, false⟩ } }

/-- Line 0 with a HOST and a POLL slot QUEUED and every slot and block in its place. -/
def queued : State :=
  let s := (State.reset.setSlot 3 (hostSlot .queued)).setSlot 4 (pollSlot .queued)
  withEngine (fun e => { e with mode := .on, state := .idle, queue := [3, 4] })
    { s with pool := { s.pool with free := s.pool.free.drop 1 } }

/-- Line 0 polling: entry 2 enabled, for station 7. -/
def polling (due : List EntryNo := []) (timer : Nat := 0) (enabled : Bool := true) : State :=
  (lineOn).modSched 0 fun p =>
    { p with run := .running, due := due, cycleTimer := timer,
             entries := p.entries.put 2
               { PollEntry.reset with definition := { PollEntry.reset.definition with enabled := enabled, station := 7 } } }

/-! ### Well-formed commands -/

/-- Offset 3 is DATA, where a write is taken: no IGNORED_WRITE (R182). -/
theorem test_ignored_write_at_data_is_refused : (Instr.ignoredWrite 3 0).wellFormed = false := by decide

/-- Offset 4 is CAUSE, where a write is ignored (R177). -/
theorem test_ignored_write_at_cause_is_well_formed : (Instr.ignoredWrite 4 0).wellFormed = true := by decide

/-- No row of the table has bits: no word spells a command. -/
theorem test_no_word_spells_a_command : decodeTableWord 8 0x10 = none ∧ State.reset.withFetchWord 8 0x10 = State.reset :=
  ⟨rfl, rfl⟩

/-! ### The check (section 1.4, worked check values) -/

theorem test_check_of_nothing : crcBytes 0xFFFF [] = 0xFFFF := by decide

theorem test_check_of_zero : crcBytes 0xFFFF [0x00] = 0xE1F0 := by decide

theorem test_check_of_digits :
    crcBytes 0xFFFF [0x31, 0x32, 0x33, 0x34, 0x35, 0x36, 0x37, 0x38, 0x39] = 0x29B1 := by decide

theorem test_check_of_resync :
    crcByte 0xFFFF 0x05 = 0xB155 ∧ crcByte 0xB155 0x04 = 0xA27E ∧ crcByte 0xA27E 0x00 = 0xEBA8 := by decide

/-! ### Resets and CONTROL -/

/-- R57: a strap read high makes its line OFF, one read low makes it ABSENT. -/
theorem test_hardware_reset_samples_straps :
    ((after (.hardwareReset 0b0001) State.reset).engine 0).mode = .off ∧
    ((after (.hardwareReset 0b0001) State.reset).engine 1).mode = .absent := by decide

/-- R185: the outputs are released or at rest while the reset input is active, and reads return 0. -/
theorem test_reset_input :
    (after .resetInputActive (sending 1)).pins.tx.look 0 = true ∧
    (after .tickLowRead (after .resetInputActive { State.reset with tick := 7, dataBus := 9 })).dataBus = 0 := by decide

/-- R63, R120: a soft reset turns the line OFF and the period goes to 1000; the line configuration is kept. -/
theorem test_soft_reset :
    let t := after .softReset ((sending 1 .request 9).modSched 0 fun p => { p with period := 7 })
    (t.engine 0).mode = .off ∧ (t.sched 0).period = 1000 ∧ (t.engine 0).config.turnaroundHold = 9 := by decide

/-- R142: ABORTED in PAYLOAD frees the LOADING slot; READY is left alone. -/
theorem test_abort :
    ((after .abortCmd (intake 5)).slot 3).state = .free ∧
    (after .abortCmd (intake 5)).port.response = some ⟨.aborted, []⟩ ∧
    (after .abortCmd State.reset).port.state = .ready := by decide

/-- R130: the head record leaves, its slot is FREE and OUTFLOW gives the port up. -/
theorem test_discard :
    (after .discardHead (outflow 2)).queue.records = [] ∧
    ((after .discardHead (outflow 2)).slot 3).state = .free ∧
    (after .discardHead (outflow 2)).data.owner = .none := by decide

/-- R184, R49: ABORT_CMD and DISCARD_HEAD of one write end with the owner NONE and no DMA_END raised in both orders; the
blocks of the slot freed first stand first. -/
theorem test_abort_and_discard_in_both_orders :
    let t := afterAll [.abortCmd, .discardHead, .busEnable 0x06, .resultDma 0x06] doneAndLoading
    let u := afterAll [.discardHead, .resultDma 0x06, .busEnable 0x06, .abortCmd] doneAndLoading
    t = { u with pool := t.pool } ∧ t.pool.free.drop 126 = [1, 0] ∧ u.pool.free.drop 126 = [0, 1] ∧
    t.data.owner = .none ∧ t.events.dmaEnd = false ∧ after (.ignoredWrite 1 0x06) doneAndLoading = t := by decide

/-- R183, R185: after reset MAIN STATUS shows CMD_READY alone; while the reset input is active it reads 0. -/
theorem test_main_status :
    (State.reset.readAt 1).1 = 0x01 ∧ ((after .resetInputActive State.reset).readAt 1).1 = 0 := by decide

/-- R180: with BUS_ENABLE at 1 both outputs are driven; SOFT_RESET in the same write leaves it at 0. -/
theorem test_bus_enable :
    (after (.busEnable 0x08) State.reset).pins.int = some false ∧
    (after (.busEnable 0x09) State.reset).pins.int = none := by decide

/-- R167: the value on clears outflow halted. -/
theorem test_result_dma :
    let s := { outflow 1 with data := { (outflow 1).data with halted := true } }
    (after (.resultDma 0x10) s).data.resultDma = true ∧ (after (.resultDma 0x10) s).data.halted = false ∧
    (after (.resultDma 0x00) s).data.halted = true := by decide

/-! ### The Command Port -/

/-- R136: 0x10 is SUBMIT; 0 names no opcode. -/
theorem test_opcode :
    (after (.opcodeByte 0x10) State.reset).port.opcode = some .submit ∧
    (after (.opcodeByte 0x00) State.reset).port.response = some ⟨.badOpcode, []⟩ := by decide

theorem test_parameter :
    (after (.parameterByte 2) (collecting .lineOff [])).port.params = [2] ∧
    (after (.parameterByte 2) (collecting .lineOff [])).port.state = .collect := by decide

theorem test_dropped_write : (after (.commandWriteDropped 1) (intake 5)).port.lost = true := by decide

/-- R147, section 11.5: ACCEPTED is 0x01, followed by the slot number; the first read clears LOST (R140). -/
theorem test_response_read :
    let s : State := { State.reset with
      port := { CommandPort.reset with state := .respond, response := some ⟨.accepted, [9]⟩, lost := true } }
    (after .responseRead s).dataBus = 0x01 ∧ (after .responseRead s).port.lost = false ∧
    (after .responseRead (after .responseRead s)).dataBus = 9 ∧
    (after .responseRead (after .responseRead s)).port.state = .ready := by decide

/-- R24, R47: request length 20 and reply room 17 take two blocks each from the head of the free list. -/
theorem test_submit_loads :
    let t := command .submit [0, 5, 1, 0x77, 3, 20, 17] 1 (lineOn)
    (t.slot 0).state = .loading ∧ (t.slot 0).requestChain = [0, 1] ∧ (t.slot 0).replyChain = [2, 3] ∧
    t.port.state = .payload ∧ t.data.owner = .intake := by decide

/-- R24: request length 0 is ACCEPTED at once, and a broadcast has reply room 0. -/
theorem test_submit_at_once :
    let t := command .submit [0, 0, 0, 0x77, 3, 0, 17] 0 (lineOn)
    (t.slot 0).state = .queued ∧ (t.slot 0).replyRoom = 0 ∧ (t.engine 0).queue = [0] ∧
    t.port.response = some ⟨.accepted, [0]⟩ := by decide

/-- R37: a QUEUED slot leaves its queue and completes CANCELLED; the others keep their order. -/
theorem test_cancel_queued :
    let t := command .cancel [] 3 queued
    (t.engine 0).queue = [4] ∧ (t.slot 3).outcome = some .cancelled ∧ t.port.response = some ⟨.done, []⟩ := by decide

/-- R86: in AWAIT the exchange ends and the engine enters SETTLE. -/
theorem test_cancel_awaiting :
    let t := command .cancel [] 3 awaiting
    (t.engine 0).state = .settle ∧ (t.engine 0).active = none ∧ (t.slot 3).outcome = some .cancelled := by decide

/-- R40: the HOST slot is DONE, the POLL slot FREE with its block at the tail of the free list. -/
theorem test_purge :
    let t := command .purge [] 0 queued
    (t.slot 3).state = .done ∧ (t.slot 4).state = .free ∧ t.pool.free.getLast? = some 0 ∧ (t.engine 0).queue = [] := by
  decide

/-- R65, R146: seven values at once; a divisor below 8 is BAD_PARAM 2. -/
theorem test_line_set :
    ((command .lineSet [0, 0, 1, 3, 4, 5, 11, 6] 7).engine 0).config = ⟨256, 3, 4, 5, 11, 6, 7⟩ ∧
    (command .lineSet [0, 7, 0, 3, 4, 5, 11, 6] 7).port.response = some ⟨.badParam, [2]⟩ := by decide

theorem test_line_on :
    let t := command .lineOn [] 0
    (t.engine 0).mode = .on ∧ (t.engine 0).state = .settle ∧ (t.engine 0).stuckTimer = some 704 := by decide

/-- R59: with an active slot the line drains; on an ABSENT line nothing happens (R57). -/
theorem test_line_off :
    ((command .lineOff [0] 0 awaiting).engine 0).mode = .draining ∧
    ((command .lineOff [0] 1 awaiting).slot 3).outcome = some .lineDown ∧
    ((command .lineOff [0] 1 awaiting).engine 0).mode = .off := by decide

theorem test_line_reset :
    let t := command .lineReset [] 0 (sending 1)
    (t.engine 0).mode = .off ∧ (t.slot 3).outcome = some .lineDown ∧ (t.link 0).transmitter = .idle := by decide

theorem test_poll_set :
    (((command .pollSet [0, 2, 7, 0x33, 16, 1, 2] 1).entry 0 2).definition) = ⟨true, 7, 0x33, 16, .always, 2⟩ := by decide

/-- R105: POLL_RUN from STOPPED starts cycle 0 at once; the enabled entry is due (R108). -/
theorem test_poll_run :
    let s := (polling).modSched 0 fun p => { p with run := .stopped, cycleNumber := 9 }
    ((command .pollRun [0, 5] 0 s).sched 0).due = [2] ∧ ((command .pollRun [0, 5] 0 s).sched 0).cycleNumber = 1 := by
  decide

theorem test_poll_halt : ((command .pollHalt [] 0 (polling [2])).sched 0).due = [] := by decide

/-- R93, R95: FORCE_OFFLINE makes the count 15 and the station joins the change set. -/
theorem test_station_set :
    let t := command .stationSet [0, 31] 2
    (t.station 0 31).failureCount = 15 ∧ (t.stationLine 0).changes = 0x80000000 := by decide

/-- R55: 40, 12 and the host reserve are reported, and the least free count becomes 40. -/
theorem test_query_pool :
    let s := { State.reset with pool := { State.reset.pool with free := State.reset.pool.free.drop 88, leastFree := 12 } }
    (command .query [0, 0] 0 s).port.response = some ⟨.done, [40, 12, 16]⟩ ∧
    (command .query [0, 0] 0 s).pool.leastFree = 40 := by decide

/-- Section 11.6: a FREE slot shows the cleared record: NORMAL is class 1 and an absent reply length is 255. -/
theorem test_query_slot :
    (command .query [1, 15] 0).port.response =
      some ⟨.done, [0, 0, 1, 0, 0, 0, 0, 0, 0, 0, 255, 0, 0, 0, 0, 0, 0]⟩ := by decide

/-- Section 11.6: the defaults of R64 and R119, divisor 208 and period 1000 low byte first. -/
theorem test_query_line :
    (command .query [2, 3] 0).port.response =
      some ⟨.done, [1, 0, 0, 255, 0, 208, 0, 2, 20, 22, 33, 3, 4, 0, 0xE8, 0x03, 0, 0, 0]⟩ := by decide

theorem test_query_station : (command .query [3, 0] 31).port.response = some ⟨.done, [0, 0, 0, 0, 0]⟩ := by decide

/-- R96: bit n is station n, and the set is emptied. -/
theorem test_query_changes :
    let s := State.reset.setStationLine 1 { StationLine.reset with changes := 0x00010002 }
    (command .query [4, 1] 0 s).port.response = some ⟨.done, [2, 0, 1, 0]⟩ ∧
    ((command .query [4, 1] 0 s).stationLine 1).changes = 0 := by decide

theorem test_query_entry :
    (command .query [5, 0] 2 (polling)).port.response = some ⟨.done, [7, 0, 0, 0, 0, 1, 0, 0, 0, 255]⟩ := by decide

/-- R134, its examples: 7 records waiting and HELD; marks 10 and 8 free the queue, marks 10 and 3 keep it HELD. -/
theorem test_queue_set :
    let s := { State.reset with
      queue := { CompletionQueue.reset with records := List.replicate 7 ⟨0, .transaction, .unknown⟩, hold := .held } }
    (command .queueSet [10, 8, 1] 16 s).queue.hold = .freeRunning ∧
    (command .queueSet [10, 3, 1] 16 s).queue.hold = .held ∧
    (command .queueSet [7, 7, 1] 16 s).port.response = some ⟨.badParam, [2]⟩ := by decide

/-! ### Readout, DATA and DMA -/

/-- R125, R127: the fifth header byte is the station; the tenth raises OUTFLOW for four bytes. -/
theorem test_result_read :
    (after .resultRead (recorded 4)).dataBus = 5 ∧ (after .resultRead (recorded 9)).data.owner = .outflow ∧
    (after .resultRead (recorded 9)).data.outflow = some ⟨4, 3⟩ := by decide

/-- R50: payload byte 16 of the chain of blocks 0 and 1 is byte 0 of block 1. -/
theorem test_data_write :
    Memory.read (after (.dataWrite 0xAB) (intake 16)).pool.mem 16 = 0xAB ∧
    (after (.dataWrite 0xAB) (intake 16)).data.moved = 17 := by decide

/-- R27, R143: the last byte makes the slot QUEUED and posts ACCEPTED. -/
theorem test_data_write_last :
    ((after (.dataWrite 0xAB) (intake 19)).slot 3).state = .queued ∧
    (after (.dataWrite 0xAB) (intake 19)).port.response = some ⟨.accepted, [3]⟩ := by decide

/-- R129: the last payload byte retires the record. -/
theorem test_data_read :
    (after .dataRead (outflow 3)).queue.records = [] ∧ (after .dataRead (outflow 2)).data.moved = 3 := by decide

/-- R170: a terminal count before the last byte ends the intake short. -/
theorem test_dma_write :
    (after (.dmaWriteAck 1 true) (intake 5)).port.response = some ⟨.shortPayload, []⟩ ∧
    (after (.dmaWriteAck 1 true) (intake 5)).events.dmaEnd = true := by decide

/-- R171: a terminal count before the last byte halts the outflow. -/
theorem test_dma_read :
    (after (.dmaReadAck true) (outflow 1)).data.halted = true ∧
    (after (.dmaReadAck true) (outflow 1)).data.owner = .outflow := by decide

/-! ### Events and the tick -/

/-- R177, section 11.6: DMA_END (kind 5) is reported and cleared; masked, nothing is reported. -/
theorem test_cause :
    let s := { State.reset with events := { EventUnit.reset with dmaEnd := true, mask := 0x3F } }
    (after .causeRead s).dataBus = 0x50 ∧ (after .causeRead s).events.dmaEnd = false ∧
    (after .causeRead { s with events := { s.events with mask := 0 } }).dataBus = 0 := by decide

theorem test_event_mask : (after (.eventMaskWrite 0xFF) State.reset).events.mask = 0x3F := by decide

theorem test_tick_low :
    (after .tickLowRead { State.reset with tick := 0x1234 }).dataBus = 0x34 ∧
    (after .tickLowRead { State.reset with tick := 0x1234 }).tickLatch = 0x12 := by decide

theorem test_ignored_write : after (.ignoredWrite 7 1) { State.reset with tickLatch := 3 } =
    { State.reset with tickLatch := 3 } := rfl

/-- R186: the counter passes from 65535 to 0, and a RUNNING scheduler's timer rises. -/
theorem test_tick :
    (after .tick { polling with tick := 65535 }).tick = 0 ∧ ((after .tick (polling)).sched 0).cycleTimer = 1 := by decide

/-! ### Polling -/

theorem test_cycle_start :
    ((after (.cycleStart 0) (polling [5] 1000)).sched 0).due = [2] ∧
    ((after (.cycleStart 0) (polling [5] 1000)).sched 0).cycleNumber = 1 := by decide

/-- R25: the lowest FREE slot becomes the QUEUED slot of the entry, its item code in block 0. -/
theorem test_poll_claim :
    let t := after (.pollClaim 0) (polling [2])
    (t.slot 0).state = .queued ∧ (t.slot 0).tag = 2 ∧ (t.slot 0).station = 7 ∧ (t.entry 0 2).live = some 0 ∧
    (t.sched 0).due = [] := by decide

/-! ### The Line Engine -/

/-- R67: the station is UNSYNC, so the phase is RESYNC; the driver goes on (R1). -/
theorem test_take :
    let t := after (.take 0) queued
    (t.engine 0).state = .guard ∧ (t.engine 0).phase = some .resync ∧ (t.slot 3).state = .active ∧
    t.pins.de.look 0 = true := by decide

/-- R31, R69: the attempt is counted and the address character of station 5 begins with its start bit at space. -/
theorem test_lead_timer :
    let t := after (.leadTimerExpiry 0) (guarded)
    (t.slot 3).attempts = 1 ∧ (t.link 0).transmitter = .sending 5 true 1 [] ∧ t.pins.tx.look 0 = false := by decide

theorem test_guard_space :
    let t := after (.guardSpaceHeard 0) (guarded)
    (t.slot 3).state = .queued ∧ (t.slot 3).attempts = 0 ∧ (t.engine 0).state = .settle := by decide

/-- The RESYNC frame to station 5 goes on with 0x04 after its address character (section 1.4). -/
theorem test_character_sent :
    let t := after (.leadTimerExpiry 0) (guarded .resync)
    ((after (.characterSent 0 (wireBits 5 true)) t).link 0).transmitter = .sending 4 false 1 [] := by decide

/-- R72: a stop bit read back as space is a mismatch; with no retry left the slot ends COLLISION. -/
theorem test_echo_mismatch :
    let t := after (.characterSent 0 (wireBits 0x42 false &&& 0x3FF)) (sending 2 .request 2 { hostSlot .active with attempts := 1 })
    (t.slot 3).outcome = some .collision ∧ (t.engine 0).state = .settle := by decide

/-- R75: the reply timer runs 20 character times of 11 bit times. -/
theorem test_hold_timer :
    ((after (.holdTimerExpiry 0) (holding)).engine 0).state = .await ∧
    ((after (.holdTimerExpiry 0) (holding)).engine 0).replyTimer = some 220 := by decide

theorem test_reply_timeout :
    let t := after (.replyTimeout 0) awaiting
    (t.station 0 5).failureCount = 1 ∧ (t.slot 3).lastFailure = some .silence ∧ (t.slot 3).state = .queued := by decide

theorem test_start_bit : ((after (.startBitTaken 0) awaiting).engine 0).state = .receive := by decide

/-- R76: the address character of station 6 answers for station 5: WRONG_STATION. -/
theorem test_wrong_station :
    ((after (.characterReceived 0 (char true true 0x86)) (receiving 0)).slot 3).lastFailure = some .wrongStation := by decide

/-- R80: a RESYNC_ACK of station 5 (0x85, 0x05, 0x00) with its check makes it SYNCED, and the slot is kept. -/
theorem test_resync_ack :
    let s := withLink (fun k => { k with charCount := 4, control := 5, length := 0, checkHigh := highByte (crcBytes 0xFFFF [0x85, 5, 0]),
                                         check := crcBytes 0xFFFF [0x85, 5, 0] }) (receiving 4 0 .resync)
    let t := after (.characterReceived 0 (char true false (lowByte (crcBytes 0xFFFF [0x85, 5, 0])))) s
    (t.station 0 5).sync = .synced ∧ (t.engine 0).state = .settle ∧ (t.engine 0).phase = some .request ∧
    (t.engine 0).active = some 3 := by decide

theorem test_gap_limit :
    let s := withEngine (fun e => { e with gapWatch := true }) (receiving 2)
    ((after (.gapLimitExpiry 0) s).slot 3).lastFailure = some .garbled := by decide

theorem test_settle_quiet : ((after (.settleQuiet 0) (settlingLine)).engine 0).state = .idle := by decide

/-- R58: a line already quiet for the settle gap passes to IDLE at once on LINE_ON; a divisor change starts it from zero. -/
theorem test_line_on_of_a_quiet_line :
    let off := command .lineOff [0] 0 (after (.settleQuiet 0) (settlingLine))
    ((command .lineOn [] 0 off).engine 0).state = .idle ∧
    ((command .lineOn [] 0 (command .lineSet [0, 9, 0, 2, 20, 22, 33, 3] 4 off)).engine 0).state = .settle := by decide

/-- R82, R84: a slot cancelled in GUARD on a line that has been quiet for the settle gap leaves the engine IDLE; a glitch (R5)
before makes it wait in SETTLE. -/
theorem test_cancel_in_guard_of_a_quiet_line :
    let s := withLink (fun k => { k with quietTime := 33 }) (guarded)
    ((command .cancel [] 3 s).engine 0).state = .idle ∧
    ((command .cancel [] 3 (guarded)).engine 0).state = .settle := by decide

/-- R5: quiet time reached in AWAIT, then the reply timer: SETTLE is left at once. A glitch in between is waited out. -/
theorem test_quiet_time_and_glitch_in_await :
    ((after (.replyTimeout 0) (after (.settleQuiet 0) awaiting)).engine 0).state = .idle ∧
    ((after (.replyTimeout 0) (after (.guardSpaceHeard 0) (after (.settleQuiet 0) awaiting))).engine 0).state = .settle := by
  decide

/-- R5, R4: a character of the controller's in which the input read no space leaves the quiet time running on; one space in it
breaks it. -/
theorem test_quiet_time_over_a_read_back :
    let s := withLink (fun k => { k with quietTime := 33 }) (sending 1)
    ((after (.characterSent 0 0x7FF) s).link 0).quietTime = 44 ∧
    ((after (.characterSent 0 0x7FF) s).engine 0).state = .idle ∧
    ((after (.characterSent 0 0x7FE) s).link 0).quietTime = 10 ∧
    ((after (.characterSent 0 0x7FE) s).engine 0).state = .settle := by decide

/-- R5: a sound stop after marker 0 is one bit time of mark, after marker 1 and data 0xC0 four; a broken stop none. -/
theorem test_quiet_time_at_delivery :
    ((after (.characterReceived 0 (char true false 0xFF)) (lineOn)).link 0).quietTime = 1 ∧
    ((after (.characterReceived 0 (char true true 0xC0)) (lineOn)).link 0).quietTime = 4 ∧
    ((after (.characterReceived 0 (char false true 0xC0)) (lineOn)).link 0).quietTime = 0 := by decide

/-- R83: LINE_STUCK is raised and the timer starts again. -/
theorem test_stuck_timer :
    (after (.stuckTimerExpiry 0) (settlingLine)).events.stuck.look 0 = true ∧
    ((after (.stuckTimerExpiry 0) (settlingLine)).engine 0).stuckTimer = some 704 := by decide

/-- R3: a broken character is followed by a wait for mark. -/
theorem test_receiver_re_arm :
    let t := after (.characterReceived 0 (char false false 0)) (lineOn)
    (t.link 0).receiver = .waitMark ∧ ((after (.receiverReArm 0) t).link 0).receiver = .armed := by decide

/-! ### Witnesses: states and operands that meet the hypotheses of each obligation, clause by clause -/

theorem witness_step_idles : State.reset.pending = [] := rfl

theorem witness_soft_reset : State.reset.inReset = false := rfl

theorem witness_reset_input :
    (after .resetInputActive State.reset).inReset = true ∧ Instr.tick ≠ .resetInputActive ∧
    ∀ straps, Instr.tick ≠ .hardwareReset straps := ⟨rfl, by simp, by simp⟩

/-- The first and the last opcode, a byte beside them, and a first parameter byte. -/
theorem witness_opcode :
    State.reset.inReset = false ∧ State.reset.port.state = .ready ∧
    Opcode.ofByte 0x10 = some .submit ∧ Opcode.ofByte 0x60 = some .queueSet ∧ Opcode.ofByte 0x61 = none ∧
    Collecting (collecting .lineOff []) .lineOff [] ∧ ([] : List Byte).length + 1 < Opcode.lineOff.paramCount := by decide

theorem witness_write_dropped :
    (intake 5).inReset = false ∧ (intake 5).port.state = .payload ∧
    (command .cancel [] 0).inReset = false ∧ (command .cancel [] 0).port.state = .respond ∧
    State.reset.data.owner ≠ .intake := by decide

/-- The last byte of LINE_SET (index 9) and the one byte of CANCEL (index 1), each one step out of its range. -/
theorem witness_first_bad_byte :
    (Collecting (collecting .cancel []) .cancel [] ∧ ([] : List Byte).length + 1 = Opcode.cancel.paramCount ∧
      InRange .cancel ([] ++ [16]) 1 = false ∧ ∀ j : Fin 10, j < 1 → InRange .cancel ([] ++ [16]) j.val = true) ∧
    (let ps : List Byte := [0, 208, 0, 2, 20, 22, 33, 3]
     Collecting (collecting .lineSet ps) .lineSet ps ∧ ps.length + 1 = Opcode.lineSet.paramCount ∧
      InRange .lineSet (ps ++ [16]) 9 = false ∧ ∀ j : Fin 10, j < 9 → InRange .lineSet (ps ++ [16]) j.val = true) := by
  decide

/-- The line checks: ABSENT, OFF for SUBMIT and POLL_RUN, ON and DRAINING for LINE_SET and LINE_ON, OFF and DRAINING for
LINE_OFF. -/
theorem witness_line_checks :
    (GoodParams .purge [0] ∧ namesLine .purge = true ∧ paramByte [0] 1 = (0 : Line).val ∧
      ((collecting .purge [] (lineIn .absent)).engine 0).mode = .absent) ∧
    (GoodParams .submit [0, 31, 1, 255, 7, 240, 240, 1] ∧ namesLine .submit = true ∧
      ((collecting .submit [0, 31, 1, 255, 7, 240, 240]).engine 0).mode = .off) ∧
    (GoodParams .pollRun [0, 1, 0] ∧ ((collecting .pollRun [0, 1] (lineIn .draining)).engine 0).mode = .draining) ∧
    (GoodParams .lineSet [0, 8, 0, 15, 1, 1, 11, 1, 15] ∧
      ((collecting .lineSet [0, 8, 0, 15, 1, 1, 11, 1] lineOn).engine 0).mode = .on) ∧
    (GoodParams .lineOn [0] ∧ ((collecting .lineOn [] (lineIn .draining)).engine 0).mode = .draining) ∧
    (GoodParams .lineOff [0, 1] ∧ ((collecting .lineOff [0]).engine 0).mode = .off) ∧
    (let s := collecting .lineOff [0] (withEngine (fun e => { e with drainKind := some .abort }) (lineIn .draining))
     GoodParams .lineOff [0, 1] ∧ (s.engine 0).mode = .draining ∧ (s.engine 0).drainKind = some .abort) ∧
    (GoodParams .lineOff [0, 0] ∧ ((collecting .lineOff [0] (lineIn .draining)).engine 0).mode = .draining) := by decide

/-- The slot and room checks: slots 0 and 15, an entry with a live slot, no FREE slot, one block short. -/
theorem witness_slot_and_room_checks :
    (Collecting (collecting .cancel []) .cancel [] ∧ ((collecting .cancel []).slot 0).state = .free ∧
      ((collecting .cancel [] (State.reset.setSlot 15 (hostSlot .done))).slot 15).state = .done) ∧
    (let s := (polling).modEntry 0 2 fun x => { x with live := some 4 }
     let ps : List Byte := [0, 2, 1, 0, 240, 2, 7]
     Collecting (collecting .pollSet ps s) .pollSet ps ∧ GoodParams .pollSet (ps ++ [1]) ∧
      paramByte ps 1 = (0 : Line).val ∧ paramByte ps 2 = (2 : EntryNo).val ∧
      ((collecting .pollSet ps s).engine 0).mode ≠ .absent ∧ ((collecting .pollSet ps s).entry 0 2).live ≠ none) ∧
    (let ps : List Byte := [0, 5, 1, 0, 7, 16, 16]
     let s := collecting .submit ps (lineOn { State.reset with slots := Table.fill 16 (hostSlot .done) })
     Collecting s .submit ps ∧ GoodParams .submit (ps ++ [0]) ∧ (s.engine 0).mode = .on ∧
      ∀ n : SlotNo, (s.slot n).state ≠ .free) ∧
    (let ps : List Byte := [0, 5, 1, 0, 7, 16, 16]
     let s := collecting .submit ps (lineOn { State.reset with pool := { Pool.reset with free := [0] } })
     GoodParams .submit (ps ++ [0]) ∧ (s.engine 0).mode = .on ∧ (s.slot 0).state = .free ∧
      s.pool.free.length < (paramByte ps 6 + 15) / 16 + (paramByte ps 7 + 15) / 16) := by decide

theorem witness_refused_command :
    ∃ t : State, Collecting (collecting .cancel []) .cancel [] ∧ (collecting .cancel []).port.response = none ∧
      exec (commandRow .cancel [] 5) (collecting .cancel []) = .next t ∧
      t.port.response = some ⟨.notCancellable, []⟩ ∧ ResponseCode.notCancellable ≠ .accepted ∧
      ResponseCode.notCancellable ≠ .done :=
  ⟨_, by decide, rfl, rfl, rfl, by decide, by decide⟩

/-- The first and the last byte of a response of two bytes, and a state without one. -/
theorem witness_response_read :
    (let s : State := { State.reset with
       port := { CommandPort.reset with state := .respond, response := some ⟨.accepted, [9]⟩ } }
     s.inReset = false ∧ s.port.state = .respond ∧ (0x01 :: [9] : List Byte)[s.port.position]? = some 0x01 ∧
      (ResponseCode.accepted.code :: [9])[1]? = some 9) ∧
    State.reset.port.state ≠ .respond := by decide

/-- Request lengths 0 and 240 on an ON line with every slot FREE and every block free. -/
theorem witness_submit :
    ∀ len : Fin 2,
      let p : SubmitParams :=
        { line := 0, station := 5, cls := .urgent, tag := 1, retryLimit := 7, requestLength := 240 * len.val,
          replyRoom := 240, dma := true }
      let ps : List Byte := [0, 5, 0, 1, 7, byteOf (240 * len.val), 240]
      let s := collecting .submit ps (lineOn)
      p.cls ≠ .poll ∧ p.retryLimit ≤ 7 ∧ p.requestLength ≤ 240 ∧ p.replyRoom ≤ 240 ∧ Collecting s .submit ps ∧
      (s.engine 0).mode = .on ∧ (s.slot 0).state = .free ∧ (∀ m : SlotNo, m < 0 → (s.slot m).state ≠ .free) ∧
      (p.requestLength + 15) / 16 + (240 + 15) / 16 ≤ s.pool.free.length := by decide

theorem witness_cancel :
    (let s := collecting .cancel [] queued
     Collecting s .cancel [] ∧ (s.slot 3).state = .queued) ∧
    (let s := collecting .cancel [] awaiting
     Collecting s .cancel [] ∧ (s.slot 3).state = .active ∧ (s.engine (s.slot 3).line).active = some 3 ∧
      (s.slot 3).cancelPending = none) ∧
    (let s := collecting .cancel [] (sending 1 .request 2 { hostSlot .active with cancelPending := some .lineDown })
     Collecting s .cancel [] ∧ (s.slot 3).state = .active ∧ (s.slot 3).cancelPending ≠ none) := by decide

theorem places_queued : Places queued :=
  ⟨by decide, by decide, by decide, by decide, by decide, by decide⟩

theorem witness_purge :
    (Collecting (collecting .purge [] queued) .purge [] ∧ ((collecting .purge [] queued).engine 0).mode ≠ .absent) ∧
    Places queued ∧ TransactionOutcome.lineDown ≠ .ok ∧ TransactionOutcome.lineDown ≠ .sent :=
  ⟨by decide, places_queued, by decide, by decide⟩

theorem witness_line_reset :
    Places (collecting .lineReset [] queued) ∧ Collecting (collecting .lineReset [] queued) .lineReset [] ∧
    ((collecting .lineReset [] queued).engine 0).mode ≠ .absent :=
  ⟨⟨by decide, by decide, by decide, by decide, by decide, by decide⟩, by decide, by decide⟩

/-- The lowest and the highest configuration values, and LINE_ON on an OFF line. -/
theorem witness_line_set_and_line_on :
    (let c : LineConfig := ⟨8, 0, 1, 1, 11, 1, 1⟩
     let ps : List Byte := [0, 8, 0, 0, 1, 1, 11, 1]
     ConfigInRange c ∧ Collecting (collecting .lineSet ps) .lineSet ps ∧
      ps = [byteOf (0 : Line).val, lowByte (BitVec.ofNat 16 c.divisor), highByte (BitVec.ofNat 16 c.divisor),
        byteOf c.turnaroundHold, byteOf c.replyTimeout, byteOf c.gapLimit, byteOf c.settleGap,
        byteOf c.offlineThreshold] ∧
      ((collecting .lineSet ps).engine 0).mode = .off) ∧
    ConfigInRange ⟨65535, 15, 255, 255, 255, 15, 15⟩ ∧
    Collecting (collecting .lineOn []) .lineOn [] ∧ ((collecting .lineOn []).engine 0).mode = .off := by decide

theorem witness_line_off :
    Collecting (collecting .lineOff [0] (lineOn)) .lineOff [byteOf (0 : Line).val] ∧
    ((collecting .lineOff [0] (lineOn)).engine 0).mode = .on ∧
    ((collecting .lineOff [0] (lineOn)).engine 0).active = none ∧
    ((collecting .lineOff [0] awaiting).engine 0).mode = .on ∧
    ((collecting .lineOff [0] awaiting).engine 0).active ≠ none ∧
    (let s := collecting .lineOff [0]
       (withEngine (fun e => { e with mode := .draining, drainKind := some .drain }) awaiting)
     (s.engine 0).mode = .draining ∧ (s.engine 0).drainKind = some .drain) := by decide

/-- An abort that finds the active slot with no flag set and one that finds it cancelled by the host already (R39). -/
theorem test_line_off_keeps_a_set_flag :
    ((command .lineOff [0] 1 (sending 2)).slot 3).cancelPending = some .lineDown ∧
    ((command .lineOff [0] 1 (sending 2 .request 2 { hostSlot .active with cancelPending := some .cancelled })).slot
      3).cancelPending = some .cancelled := by decide

theorem witness_poll_set_and_poll_halt :
    (let d : PollDef := { enabled := true, station := 31, item := 3, replyRoom := 240, policy := .statusOnly, retryLimit := 7 }
     let ps : List Byte := [0, 15, 31, 3, 240, 2, 7]
     d.station ≠ 0 ∧ d.replyRoom ≤ 240 ∧ d.retryLimit ≤ 7 ∧ Collecting (collecting .pollSet ps) .pollSet ps ∧
      ps = [byteOf (0 : Line).val, byteOf (15 : EntryNo).val, byteOf d.station.val, d.item, byteOf d.replyRoom, 2,
        byteOf d.retryLimit] ∧
      ((collecting .pollSet ps).engine 0).mode ≠ .absent ∧ ((collecting .pollSet ps).entry 0 15).live = none) ∧
    Collecting (collecting .pollHalt []) .pollHalt [] ∧ ((collecting .pollHalt []).engine 0).mode ≠ .absent := by decide

/-- Station 1 and station 31, on an ABSENT and on an OFF line. -/
theorem witness_station_set :
    (1 : StationAddr) ≠ 0 ∧ (31 : StationAddr) ≠ 0 ∧
    Collecting (collecting .stationSet [0, 31]) .stationSet [byteOf (0 : Line).val, byteOf (31 : StationAddr).val] ∧
    ((collecting .stationSet [0, 31] (lineIn .absent)).engine 0).mode = .absent ∧
    ((collecting .stationSet [0, 31]).engine 0).mode ≠ .absent := by decide

theorem witness_query :
    Collecting (collecting .query [0, 255]) .query [0, 255] ∧
    Collecting (collecting .query [1, 15]) .query [1, byteOf (15 : SlotNo).val] ∧
    Collecting (collecting .query [2, 3]) .query [2, byteOf (3 : Line).val] ∧
    Collecting (collecting .query [3, 3]) .query [3, byteOf (3 : Line).val] ∧ (31 : StationAddr) ≠ 0 ∧
    Collecting (collecting .query [4, 3]) .query [4, byteOf (3 : Line).val] ∧
    Collecting (collecting .query [5, 3]) .query [5, byteOf (3 : Line).val] := by decide

/-- The lowest and the highest values of QUEUE_SET. -/
theorem witness_queue_set :
    Collecting (collecting .queueSet [byteOf 1, byteOf 0, byteOf 1]) .queueSet [byteOf 1, byteOf 0, byteOf 1] ∧
    Collecting (collecting .queueSet [byteOf 16, byteOf 15, byteOf 16]) .queueSet [byteOf 16, byteOf 15, byteOf 16] := by
  decide

/-- The first header byte, and the tenth with a payload behind it and without one. -/
theorem witness_header_read :
    (recorded 0).inReset = false ∧ (recorded 0).queue.records = [⟨3, .transaction, .online⟩] ∧
    (recorded 0).queue.headerPos = (0 : Fin 10).val ∧ (recorded 9).queue.headerPos = (9 : Fin 10).val ∧
    ((recorded 9).slot 3).replyLength.getD 0 ≠ 0 ∧
    (((recorded 9).setSlot 3 (hostSlot .done)).slot 3).replyLength.getD 0 = 0 := by decide

theorem witness_no_header_byte :
    State.reset.inReset = false ∧ State.reset.queue.records = [] ∧ 10 ≤ (recorded 10).queue.headerPos := by decide

theorem witness_retirement :
    (recorded).queue.records = ⟨3, .transaction, .online⟩ :: [] := rfl

/-- An INTAKE owner with one byte in, and with one byte to come. -/
theorem witness_intake :
    State.reset.data.owner ≠ .intake ∧
    (∀ moved : Fin 20, (intake moved.val).inReset = false ∧ (intake moved.val).data.owner = .intake ∧
      (intake moved.val).data.intake = some ⟨20, true⟩ ∧ (intake moved.val).port.loading = some 3 ∧
      (intake moved.val).data.moved < 20) ∧
    Memory.wf (intake 0).pool.mem = true ∧ ∃ t : State, exec (.dataWrite 7) (intake 0) = .next t :=
  ⟨by decide, by decide, rfl, _, rfl⟩

theorem witness_outflow :
    State.reset.data.owner ≠ .outflow ∧
    ∀ moved : Fin 4, (outflow moved.val).inReset = false ∧ (outflow moved.val).data.owner = .outflow ∧
      (outflow moved.val).data.outflow = some ⟨4, 3⟩ ∧ (outflow moved.val).data.moved < 4 := by decide

theorem witness_abort_and_discard :
    State.reset.inReset = false ∧ State.reset.port.state = .ready ∧
    (command .cancel [] 0).port.state = .respond ∧ (collecting .cancel []).port.state = .collect ∧
    (intake 5).port.state = .payload ∧ (intake 5).port.loading = some 3 ∧
    State.reset.queue.records = [] ∧ (outflow 2).queue.records = ⟨3, .transaction, .online⟩ :: [] ∧
    doneAndLoading.port.state = .payload ∧ doneAndLoading.port.loading = some 5 ∧
    doneAndLoading.queue.records = ⟨3, .transaction, .online⟩ :: [] := by decide

theorem witness_tick :
    State.reset.inReset = false ∧ (State.reset.sched 1).run = .stopped ∧
    ((polling [] 65534).sched 0).run = .running ∧ ((polling [] 65534).sched 0).cycleTimer < 65535 := by decide

/-- The timer at its period, and POLL_RUN with the smallest and the largest period. -/
theorem witness_cycle_start :
    (polling [] 1000).inReset = false ∧ ((polling [] 1000).sched 0).run = .running ∧
    ((polling [] 1000).sched 0).period ≤ ((polling [] 1000).sched 0).cycleTimer ∧
    (∀ p : Fin 2,
      let period := 1 + 65534 * p.val
      let ps : List Byte := [byteOf (0 : Line).val, lowByte (BitVec.ofNat 16 period)]
      1 ≤ period ∧ period ≤ 65535 ∧ Collecting (collecting .pollRun ps (lineOn)) .pollRun ps ∧
        ((collecting .pollRun ps (lineOn)).engine 0).mode = .on) := by decide

/-- A claim of an entry written off, one that leaves one slot FREE too few, and one that is granted. -/
theorem witness_claim :
    (polling [2]).inReset = false ∧ ((polling [2]).sched 0).run = .running ∧ ((polling [2]).sched 0).due = [2] ∧
    ((polling [2] 0 false).entry 0 2).definition.enabled = false ∧
    ((polling [2]).entry 0 2).definition.enabled = true ∧
    (let s := (polling [2])
     let t := { s with slots := ((Table.fill 16 (hostSlot .done)).put 0 Slot.cleared).put 1 Slot.cleared }
     ¬ (3 ≤ ((List.finRange 16).filter fun n => decide ((t.slot n).state = .free)).length)) ∧
    3 ≤ ((List.finRange 16).filter fun n => decide (((polling [2]).slot n).state = .free)).length ∧
    (polling [2]).pool.hostReserve + 1 + 0 ≤ (polling [2]).pool.free.length ∧
    ((polling [2]).slot 0).state = .free ∧ (∀ m : SlotNo, m < 0 → ((polling [2]).slot m).state ≠ .free) ∧
    Memory.wf (polling [2]).pool.mem = true := by decide

theorem witness_take_and_lead_time :
    (queued.inReset = false ∧ (queued.engine 0).state = .idle ∧ (queued.engine 0).mode = .on ∧
      (queued.engine 0).queue = 3 :: [4] ∧ (queued.slot 3).line = 0) ∧
    ((awaiting.engine 0).state ≠ .idle ∧ (State.reset.engine 0).mode ≠ .on ∧ ((lineOn).engine 0).queue = []) ∧
    ((guarded).inReset = false ∧ ((guarded).engine 0).state = .guard ∧ ((guarded).engine 0).leadTimer ≠ none ∧
      ((guarded).engine 0).active = some 3 ∧ ((guarded).engine 0).phase = some .request) := by decide

theorem witness_space_in_guard :
    (guarded).inReset = false ∧ ((guarded).engine 0).state = .guard ∧ ((guarded).engine 0).active = some 3 ∧
    ((guarded).slot 3).line = 0 ∧ ((guarded).engine 0).resynced = false ∧
    ((withEngine (fun e => { e with resynced := true }) (guarded)).engine 0).resynced = true ∧
    (awaiting.inReset = false ∧ (awaiting.engine 0).state ≠ .guard ∧ (awaiting.engine 0).mode ≠ .absent) := by decide

/-- The address character (1) and the fourth character of a frame without payload, which are not the last. -/
theorem witness_good_echo :
    ∀ k : Fin 4,
      let s := sending (k.val + 1)
      s.inReset = false ∧ (s.engine 0).state = .transmit ∧ (s.engine 0).active = some 3 ∧
      (s.engine 0).phase = some .request ∧ (s.link 0).transmitter = .sending 0x42 false 1 [] ∧
      (s.link 0).sendCount = k.val + 1 ∧ 1 ≤ k.val + 1 ∧ k.val + 1 < 5 + (s.slot 3).requestLength := by decide

/-- The fifth and last character, with a hold of 2 and of 0; an echo mismatch with and without a pending cancel. -/
theorem witness_last_echo_or_mismatch :
    (∀ hold : Fin 3,
      let s := sending 5 .request hold.val
      s.inReset = false ∧ (s.engine 0).state = .transmit ∧ (s.engine 0).active = some 3 ∧
      (s.engine 0).phase = some .request ∧ (s.link 0).transmitter = .sending 0x42 false 1 [] ∧
      5 + (s.slot 3).requestLength ≤ (s.link 0).sendCount ∧ (s.engine 0).config.turnaroundHold = hold.val) ∧
    (0 : BitVec 11) ≠ wireBits 0x42 false ∧ ((sending 5).slot 3).cancelPending = none ∧
    ((sending 5 .request 2 { hostSlot .active with cancelPending := some .lineDown }).slot 3).cancelPending =
      some .lineDown := by decide

theorem witness_hold_end :
    (holding).inReset = false ∧ ((holding).engine 0).state = .turnaround ∧ ((holding).engine 0).holdTimer ≠ none ∧
    ((holding).engine 0).active = some 3 ∧ ((holding).slot 3).cancelPending = none ∧
    ((holding).engine 0).phase ≠ some .broadcast ∧ ((holding .broadcast).engine 0).phase = some .broadcast ∧
    ((holding .request { hostSlot .active with cancelPending := some .cancelled }).slot 3).cancelPending =
      some .cancelled := by decide

theorem witness_silence_and_gap :
    (awaiting.inReset = false ∧ (awaiting.engine 0).active = some 3 ∧ (awaiting.slot 3).cancelPending = none ∧
      (awaiting.engine 0).phase ≠ some .broadcast ∧ (awaiting.engine 0).state = .await ∧
      (awaiting.engine 0).replyTimer ≠ none) ∧
    (let s := withEngine (fun e => { e with gapWatch := true }) (receiving 2)
     s.inReset = false ∧ (s.engine 0).active = some 3 ∧ (s.slot 3).cancelPending = none ∧
      (s.engine 0).phase ≠ some .broadcast ∧ (s.engine 0).state = .receive ∧ (s.engine 0).gapWatch = true) := by decide

theorem witness_start_bit :
    awaiting.inReset = false ∧ (awaiting.engine 0).mode ≠ .absent ∧ (awaiting.link 0).transmitter = .idle ∧
    (awaiting.link 0).receiver = .armed ∧ (awaiting.link 0).receiver ≠ .waitMark ∧
    (awaiting.engine 0).state ≠ .receive ∧
    ((withLink (fun k => { k with receiver := .assembling [] }) awaiting).link 0).receiver ≠ .waitMark ∧
    ((withLink (fun k => { k with receiver := .waitMark })).link 0).receiver = .waitMark := by decide

/-- A first character with marker 0, a later one with marker 1, a broken stop, and another station's address; the receiver
assembling the character, or armed. -/
theorem witness_bad_character :
    (∀ receiver ∈ [Receiver.assembling [], .armed],
      let s := receiving 0 0 .request receiver
      s.inReset = false ∧ (s.engine 0).mode ≠ .absent ∧ (s.engine 0).state = .receive ∧ (s.engine 0).active = some 3 ∧
        (s.engine 0).phase = some .request ∧ (s.slot 3).cancelPending = none ∧ (s.link 0).transmitter = .idle ∧
        (s.link 0).receiver ≠ .waitMark ∧ (s.link 0).charCount = 0 ∧
        ((receiving 1 0 .request receiver).link 0).charCount ≠ 0) ∧
    ((0x86 : Byte).getLsbD 7 = true ∧ (0x86 : Byte).getLsbD 6 = false ∧ (0x86 : Byte).getLsbD 5 = false ∧
      (0x86 : Byte).toNat % 32 ≠ ((receiving 0).slot 3).station.val) := by decide

/-- Each character of a reply with one payload byte, from the address (1) to the first check character (5); the receiver
assembling the character, or armed. -/
theorem witness_reply_character :
    ∀ receiver ∈ [Receiver.assembling [], .armed], ∀ i : Fin 5,
      let s := receiving i.val 1 .request receiver
      let data : Byte := if i.val = 0 then 0x85 else 0x02
      s.inReset = false ∧ (s.engine 0).mode ≠ .absent ∧ (s.engine 0).state = .receive ∧ (s.engine 0).active = some 3 ∧
      (s.engine 0).phase = some .request ∧ (s.link 0).transmitter = .idle ∧ (s.link 0).receiver ≠ .waitMark ∧
      Memory.wf s.pool.mem = true ∧ (s.link 0).charCount + 1 = i.val + 1 ∧
      (i.val + 1 = 1 → data.toNat = 128 + (s.slot 3).station.val) ∧
      (3 < i.val + 1 → i.val + 1 ≤ 4 + (s.link 0).length.toNat) := by decide

/-- Every verdict of a complete reply is reached: a good REPLY, one too long, STALE, BUSY, a good RESYNC_ACK, GARBLED. -/
theorem witness_frame_judged :
    judgeFrame .request true 0x82 1 1 true = .goodReply ∧ judgeFrame .request true 0x02 2 1 true = .replyTooLong ∧
    judgeFrame .request true 0x02 1 1 true = .failed .stale ∧ judgeFrame .resync true 0x83 0 0 true = .failed .busy ∧
    judgeFrame .resync true 0x05 0 0 true = .goodAck ∧ judgeFrame .request true 0x02 241 240 true = .failed .garbled ∧
    judgeFrame .request false 0x82 1 1 true = .failed .garbled := by decide

/-- The second check character of an empty reply; the receiver assembling it, or armed. -/
theorem witness_complete_reply :
    ∀ receiver ∈ [Receiver.assembling [], .armed],
      let s := receiving 4 0 .request receiver
      s.inReset = false ∧ (s.engine 0).mode ≠ .absent ∧ (s.engine 0).state = .receive ∧ (s.engine 0).active = some 3 ∧
      (s.engine 0).phase = some .request ∧ Phase.request ≠ .broadcast ∧ (s.slot 3).cancelPending = none ∧
      (s.link 0).transmitter = .idle ∧ (s.link 0).receiver ≠ .waitMark ∧ 3 < (s.link 0).charCount ∧
      4 + (s.link 0).length.toNat ≤ (s.link 0).charCount := by decide

theorem witness_settle :
    (settlingLine).inReset = false ∧ ((settlingLine).engine 0).state = .settle ∧ ((settlingLine).engine 0).active = none ∧
    ((settlingLine).engine 0).mode = .on ∧ ((settlingLine).engine 0).stuckTimer ≠ none ∧
    ((active .settle).engine 0).mode ≠ .absent ∧ ((active .settle).engine 0).state = .settle ∧
    ((active .settle).engine 0).active ≠ none ∧
    (awaiting.inReset = false ∧ (awaiting.engine 0).mode ≠ .absent ∧ (awaiting.engine 0).state ≠ .settle) := by decide

/-- An engine that fits its state in GUARD, AWAIT, SETTLE on an ON and on a DRAINING line, and TURNAROUND. -/
theorem witness_cancel_active :
    (EngineFits ((guarded).engine 0) ∧ ((guarded).engine 0).state = .guard) ∧
    (EngineFits (awaiting.engine 0) ∧ (awaiting.engine 0).state = .await) ∧
    (EngineFits ((receiving 2).engine 0) ∧ ((receiving 2).engine 0).state = .receive) ∧
    (let s := withEngine (fun e => { e with resynced := true, stuckTimer := some 704 }) (active .settle)
     EngineFits (s.engine 0) ∧ (s.engine 0).state = .settle ∧ (s.engine 0).mode ≠ .draining) ∧
    (let s := withEngine (fun e => { e with mode := .draining, drainKind := some .drain, resynced := true,
                                            stuckTimer := some 704 }) (active .settle)
     EngineFits (s.engine 0) ∧ (s.engine 0).state = .settle ∧ (s.engine 0).mode = .draining) ∧
    (EngineFits ((holding).engine 0) ∧ ((holding).engine 0).state = .turnaround) := by
  refine ⟨?_, ?_, ?_, ?_, ?_, ?_⟩ <;> decide

/-- An attempt with one more left, and the last of eight. -/
theorem witness_failed_attempt :
    (let x := { awaiting.slot 3 with attempts := 7, retryLimit := 7 }
     x.attempts < x.retryLimit + 1) ∧
    (let x := { awaiting.slot 3 with attempts := 8, retryLimit := 7 }
     x.retryLimit + 1 ≤ x.attempts) := by decide

/-- A queue in class order, with a slot of each class. -/
theorem witness_queue_order :
    let s := (State.reset.setSlot 1 { hostSlot .queued with cls := .urgent }).setSlot 4 (pollSlot .queued)
    ([1, 2, 4] : List SlotNo).Pairwise (fun a b => (s.slot a).cls.rank ≤ (s.slot b).cls.rank) := by decide

theorem witness_completions :
    ((awaiting).slot 3).origin = .host ∧
    ((State.reset.setSlot 4 (pollSlot .active)).slot 4).origin = .poll ∧
    ((State.reset.setSlot 4 (pollSlot .active)).slot 4).tag = byteOf (2 : EntryNo).val ∧
    ((polling).entry 0 2).definition.policy = .onChange ∧ ((polling).entry 0 2).digest = none := by decide

theorem witness_verdict : (31 : StationAddr) ≠ 0 := by decide

/-- A consistent state with a command waiting: the invariants' hypotheses hold of the reset state. -/
theorem witness_invariants :
    let s := { State.reset with pending := [.tick] }
    (Memory.wf s.pool.mem = true ∧ EnginesFit s ∧ StrapsRule s ∧ SchedulersFit s) ∧ ∃ t : State, step s = .next t :=
  ⟨by decide, _, rfl⟩

theorem witness_values : ValuesInRange State.reset := by
  refine ⟨?_, ?_, ?_, ?_, ?_, ?_⟩ <;> decide

theorem witness_outputs : OutputsFollow State.reset := by
  refine ⟨?_, ?_⟩ <;> decide

theorem witness_places : Places State.reset :=
  ⟨by decide, by decide, by decide, by decide, by decide, by decide⟩

/-- A good RESYNC_ACK makes station 5 SYNCED. -/
theorem witness_synced :
    let s := withLink (fun k => { k with charCount := 4, control := 5, length := 0, checkHigh := highByte (crcBytes 0xFFFF [0x85, 5, 0]),
                                         check := crcBytes 0xFFFF [0x85, 5, 0] }) (receiving 4 0 .resync)
    (s.station 0 5).sync = .unsync ∧
    let data := lowByte (crcBytes 0xFFFF [0x85, 5, 0])
    ((after (.characterReceived 0 (char true false data)) s).station 0 5).sync = .synced ∧
    ((after (.characterReceived 0 (char true false data)) s).station 0 5).toggle = false ∧
    judgeFrame .resync (decide ((s.link 0).check.toNat = (s.link 0).checkHigh.toNat * 256 + data.toNat)) (s.link 0).control
      (s.link 0).length.toNat (s.slot 3).replyRoom (s.link 0).sentToggle = .goodAck := by decide

theorem witness_memory_changes :
    Memory.read (after (.dataWrite 7) (intake 0)).pool.mem 0 ≠ Memory.read (intake 0).pool.mem 0 := by decide

theorem witness_lines : Places queued ∧ (1 : Line) ≠ 0 ∧ ∃ t : State, exec (.take 0) queued = .next t :=
  ⟨places_queued, by decide, _, rfl⟩

theorem witness_control :
    State.reset.inReset = false ∧ Places State.reset ∧
    (controlCommands 0x07).Perm (controlCommands 0x07) ∧ (0x07 : Byte).getLsbD 0 = true ∧
    (controlCommands 0x06).reverse.Perm (controlCommands 0x06) ∧ (0x06 : Byte).getLsbD 0 = false :=
  ⟨rfl, witness_places, List.Perm.refl _, by decide, List.reverse_perm _, by decide⟩

end Sys2Proof.Tests
end

/-! # The outputs and the drop link

SUPPORT. The part out of reset and what a step can answer; the pins that a happening leaves; the judgement of a reply; the
receiver's happenings. -/

/-! ### What a happening answers -/

section
namespace Sys2Proof.Machine

open Host (Outcome)

/-- Out of reset a happening is its effect, with the outputs evaluated after it. -/
theorem happening_of_running {s : State} (hs : s.inReset = false) (f : State → State) :
    happening f s = .next (f s).drive := by simp [happening, hs]

/-- Out of reset a read drives its byte onto the data bus, and the outputs are evaluated after it. -/
theorem readHappening_of_running {s : State} (hs : s.inReset = false) (f : State → Byte × State) :
    readHappening f s = .next (State.drive { (f s).2 with dataBus := (f s).1 }) := by simp [readHappening, hs]

/-- While the reset input is active a happening changes nothing (R185). -/
theorem happening_of_inReset {s : State} (hs : s.inReset = true) (f : State → State) : happening f s = .next s := by
  simp [happening, hs]

/-- While the reset input is active a read returns 0 (R185). -/
theorem readHappening_of_inReset {s : State} (hs : s.inReset = true) (f : State → Byte × State) :
    readHappening f s = .next { s with dataBus := 0 } := by simp [readHappening, hs]

/-- The pins are a function of the rest of the state, so evaluating them again changes nothing. -/
theorem State.drive_drive (s : State) : s.drive.drive = s.drive := rfl

/-- How a state can stand to the one before it, as far as the outputs go: its outputs were evaluated last of all, or nothing
but the byte on the data bus was changed. -/
def Evaluated (s t : State) : Prop := t.drive = t ∨ ∃ b : Byte, t = { s with dataBus := b }

theorem evaluated_drive (s u : State) : Evaluated s u.drive := .inl u.drive_drive

theorem evaluated_self (s : State) : Evaluated s s := .inr ⟨s.dataBus, rfl⟩

theorem happening_evaluates {f : State → State} {s t : State} (h : happening f s = .next t) : Evaluated s t := by
  cases hs : s.inReset with
  | true =>
    rw [happening_of_inReset hs] at h
    cases h
    exact evaluated_self s
  | false =>
    rw [happening_of_running hs] at h
    cases h
    exact evaluated_drive s _

theorem readHappening_evaluates {f : State → Byte × State} {s t : State} (h : readHappening f s = .next t) :
    Evaluated s t := by
  cases hs : s.inReset with
  | true =>
    rw [readHappening_of_inReset hs] at h
    cases h
    exact .inr ⟨0, rfl⟩
  | false =>
    rw [readHappening_of_running hs] at h
    cases h
    exact evaluated_drive s _

/-- The pins at the release of the reset input are those of the state released: INT and DRQ undriven, every transmit output
at mark, every driver off (R181, R173, R1). -/
theorem State.releaseReset_drive (s : State) (straps : BitVec 4) :
    (s.releaseReset straps).drive = s.releaseReset straps := by
  have htx : (Table.make fun l => ((s.releaseReset straps).link l).txLevel) = Table.fill 4 true :=
    Table.ext fun l => by simp [State.link, State.releaseReset, State.resetWith, Link.reset, Link.txLevel]
  have hde : (Table.make fun l => ((s.releaseReset straps).engine l).drives) = Table.fill 4 false :=
    Table.ext fun l => by simp [State.engine, State.releaseReset, State.resetWith, Engine.reset, Engine.drives]
  have hpins : (s.releaseReset straps).drivenPins = Pins.reset := by
    rw [State.drivenPins, htx, hde]
    rfl
  rw [State.drive, hpins]
  rfl

/-- Every command evaluates the outputs after its effects, or has no effect on anything but the data bus. -/
theorem exec_evaluates {c : Instr} {s t : State} (h : exec c s = .next t) : Evaluated s t := by
  cases c with
  | hardwareReset straps =>
    cases h
    exact .inl (s.releaseReset_drive straps)
  | resetInputActive =>
    cases h
    exact evaluated_drive s _
  | ignoredWrite offset b =>
    change execIgnoredWrite offset b s = .next t at h
    unfold execIgnoredWrite at h
    split at h
    · cases h
      exact evaluated_self s
    · exact happening_evaluates h
  | responseRead | resultRead | dataRead | dmaReadAck | causeRead | tickLowRead =>
    dsimp only [exec] at h
    exact readHappening_evaluates h
  | _ =>
    dsimp only [exec] at h
    exact happening_evaluates h

end Sys2Proof.Machine
end

/-! ### The outputs (R1, R167, R179, R180, R185) -/

section
namespace Sys2Proof.Machine

/-- A per-line kind has one item for each line. -/
theorem any_lineItems (k : EventKind) (f : EventItem → Bool) :
    (lineItems k).any f = true ↔ ∃ l : Line, f ⟨k, l⟩ = true := by
  simp [lineItems, Fin.exists_fin_succ]

/-- INT's level is R179's: one item of the fifteen counts exactly when something unmasked is pending. -/
theorem State.eventFlag_eq (s : State) : s.eventFlag = decide (SomethingUnmasked s) := by
  rw [Bool.eq_iff_iff, decide_eq_true_iff]
  simp only [State.eventFlag, allItems, List.any_append, Bool.or_eq_true, any_lineItems]
  simp [State.itemCounts, State.itemPending, EventUnit.unmasked, EventKind.code, CompletionQueue.completion,
    SomethingUnmasked, exists_or, or_assoc, and_comm]

/-- DRQ's level is R167's. -/
theorem DataPort.wantsDma_eq (d : DataPort) : d.wantsDma = decide (DmaByteWanted d) := by
  rw [Bool.eq_iff_iff, decide_eq_true_iff]
  cases howner : d.owner with
  | none => simp [DataPort.wantsDma, DataPort.dmaReady, howner]
  | intake => cases hr : d.intake <;> simp [DataPort.wantsDma, DataPort.dmaReady, DataPort.total, DmaByteWanted, howner, hr]
  | outflow =>
    cases hr : d.outflow <;>
      simp [DataPort.wantsDma, DataPort.dmaReady, DataPort.total, DmaByteWanted, howner, hr, and_assoc]

theorem Engine.drives_iff (e : Engine) :
    e.drives = true ↔ e.state = .guard ∨ e.state = .transmit ∨ e.state = .turnaround := by
  simp [Engine.drives, or_assoc]

theorem Link.txLevel_of_idle {k : Link} (h : k.transmitter = .idle) : k.txLevel = true := by simp [Link.txLevel, h]

theorem State.drivenPins_of_inReset {s : State} (h : s.inReset = true) : s.drivenPins = Pins.reset := by
  simp [State.drivenPins, h]

theorem State.drivenPins_of_running {s : State} (h : s.inReset = false) :
    s.drivenPins =
      { int := if s.events.busEnable then some s.eventFlag else none,
        drq := if s.events.busEnable then some s.data.wantsDma else none,
        tx := Table.make fun l => (s.link l).txLevel,
        de := Table.make fun l => (s.engine l).drives } := by simp [State.drivenPins, h]

/-- Outputs that were evaluated last stand as the rules say. -/
theorem outputsFollow_drive (s : State) : OutputsFollow s.drive := by
  refine ⟨fun h => State.drivenPins_of_inReset h, fun h => ?_⟩
  have hpins : s.drive.pins = _ := State.drivenPins_of_running h
  refine ⟨fun hb => ?_, fun hb => ?_, fun l => ⟨?_, fun hidle => ?_⟩⟩
  · have hoff : s.events.busEnable = false := hb
    rw [hpins, hoff]
    exact ⟨rfl, rfl⟩
  · have hon : s.events.busEnable = true := hb
    constructor
    · rw [hpins, hon, State.eventFlag_eq]
      rfl
    · rw [hpins, hon, DataPort.wantsDma_eq]
      rfl
  · rw [hpins, Table.look_make]
    exact Engine.drives_iff _
  · rw [hpins, Table.look_make]
    exact Link.txLevel_of_idle hidle

/-- The outputs do not look at the data bus. -/
theorem outputsFollow_dataBus {s : State} (h : OutputsFollow s) (b : Byte) : OutputsFollow { s with dataBus := b } := h

theorem Evaluated.outputsFollow {s t : State} (hs : OutputsFollow s) (h : Evaluated s t) : OutputsFollow t := by
  obtain hdriven | ⟨b, rfl⟩ := h
  · rw [← hdriven]
    exact outputsFollow_drive t
  · exact outputsFollow_dataBus hs b

/-- Settles O56: a step is one command with the rest of the queue left to wait, which the outputs do not look at, and every
command evaluates the outputs or leaves what they follow as it was. -/
theorem outputsFollowEveryStep : Obligations.OutputsFollowEveryStep := by
  intro s t hs h
  unfold step at h
  split at h
  · cases h
    exact hs
  · next c rest _ =>
    have hrest : OutputsFollow { s with pending := rest } := hs
    exact (exec_evaluates h).outputsFollow hrest

end Sys2Proof.Machine
end

/-! ### The judgement of a reply (R13, R78) -/

section
namespace Sys2Proof.Machine

theorem controlKind_eq (control : Byte) : controlKind control = control.toNat % 16 := by
  simp [controlKind, BitVec.extractLsb'_toNat]

theorem controlUnusedZero_iff (control : Byte) : controlUnusedZero control = true ↔ control.toNat / 16 % 8 = 0 := by
  simp [controlUnusedZero, ← BitVec.toNat_inj, BitVec.extractLsb'_toNat, Nat.shiftRight_eq_div_pow]

theorem controlToggle_eq (control : Byte) : controlToggle control = decide (128 ≤ control.toNat) := by
  rw [controlToggle, ← BitVec.msb_eq_getLsbD_last, BitVec.msb_eq_decide]

/-- A REPLY that the form of R13 allows. -/
def ReplyForm (p : Phase) (control : Byte) (length : Nat) : Prop :=
  p = .request ∧ controlKind control = kindReply ∧ length ≤ 240

/-- A BUSY that the form of R13 allows; both phases that await a reply allow it. -/
def BusyForm (control : Byte) (length : Nat) : Prop := controlKind control = kindBusy ∧ length = 0

/-- A RESYNC_ACK that the form of R13 allows. -/
def AckForm (p : Phase) (control : Byte) (length : Nat) : Prop :=
  p = .resync ∧ controlKind control = kindResyncAck ∧ length = 0 ∧ controlToggle control = false

theorem wellFormedReply_iff {p : Phase} (hp : p ≠ .broadcast) (control : Byte) (length : Nat) :
    wellFormedReply p control length = true ↔
      control.toNat / 16 % 8 = 0 ∧
        (ReplyForm p control length ∨ BusyForm control length ∨ AckForm p control length) := by
  rw [← controlUnusedZero_iff]
  cases p <;> simp_all [wellFormedReply, ReplyForm, BusyForm, AckForm, and_assoc]

theorem judgeFrame_of_bad {p : Phase} {checkGood : Bool} {control : Byte} {length : Nat} (room : Nat) (sent : Bool)
    (h : ¬ (checkGood = true ∧ wellFormedReply p control length = true)) :
    judgeFrame p checkGood control length room sent = .failed .garbled := by
  cases checkGood <;> simp_all [judgeFrame]

/-- Of a REPLY in form, the length against the room comes before the toggle. -/
theorem judgeFrame_of_reply {p : Phase} {control : Byte} {length : Nat} (room : Nat) (sent : Bool)
    (hw : wellFormedReply p control length = true) (h : ReplyForm p control length) :
    judgeFrame p true control length room sent =
      if room < length then .replyTooLong else if controlToggle control ≠ sent then .failed .stale else .goodReply := by
  obtain ⟨rfl, hkind, -⟩ := h
  simp [judgeFrame, hw, hkind, kindReply, kindBusy]

theorem judgeFrame_of_busy {p : Phase} {control : Byte} {length : Nat} (room : Nat) (sent : Bool)
    (hw : wellFormedReply p control length = true) (h : BusyForm control length) :
    judgeFrame p true control length room sent = .failed .busy := by
  obtain ⟨hkind, -⟩ := h
  simp [judgeFrame, hw, hkind, kindReply, kindBusy]

theorem judgeFrame_of_ack {p : Phase} {control : Byte} {length : Nat} (room : Nat) (sent : Bool)
    (hw : wellFormedReply p control length = true) (h : AckForm p control length) :
    judgeFrame p true control length room sent = .goodAck := by
  obtain ⟨rfl, hkind, -⟩ := h
  simp [judgeFrame, hw, hkind, kindBusy, kindResyncAck]

/-- Settles O43: a frame with a good check and good form is a REPLY, a BUSY or a RESYNC_ACK, and each form has its
verdicts; every other frame is GARBLED. -/
theorem frameIsJudgedInOrder : Obligations.FrameIsJudgedInOrder := by
  intro p checkGood control length room sent hp
  have hform := wellFormedReply_iff hp control length
  by_cases hfit : checkGood = true ∧ wellFormedReply p control length = true
  · obtain ⟨rfl, hw⟩ := hfit
    obtain ⟨hzero, hreply | hbusy | hack⟩ := hform.1 hw
    · have hv := judgeFrame_of_reply room sent hw hreply
      obtain ⟨rfl, hkind, hlen⟩ := hreply
      simp only [controlKind_eq, controlToggle_eq, kindReply] at hkind hv
      obtain hroom | hroom := Nat.lt_or_ge room length
      · simp [hv, hzero, hkind, hlen, hroom]
      · by_cases htoggle : decide (128 ≤ control.toNat) = sent
        · simp [hv, hzero, hkind, hlen, hroom, hroom.not_gt, htoggle]
        · simp [hv, hzero, hkind, hlen, hroom, hroom.not_gt, htoggle]
    · have hv := judgeFrame_of_busy room sent hw hbusy
      obtain ⟨hkind, rfl⟩ := hbusy
      simp only [controlKind_eq, kindBusy] at hkind
      simp [hv, hzero, hkind]
    · have hv := judgeFrame_of_ack room sent hw hack
      obtain ⟨rfl, hkind, rfl, htoggle⟩ := hack
      simp only [controlKind_eq, controlToggle_eq, kindResyncAck] at hkind htoggle
      simp [hv, hzero, hkind, htoggle]
  · have hv := judgeFrame_of_bad room sent hfit
    rw [hform] at hfit
    simp only [ReplyForm, BusyForm, AckForm, controlKind_eq, controlToggle_eq, kindReply, kindBusy, kindResyncAck] at hfit
    refine ⟨iff_of_false ?_ ?_, iff_of_false ?_ ?_, iff_of_false ?_ ?_, iff_of_false ?_ ?_, iff_of_false ?_ ?_,
      iff_of_true hv ?_⟩
    · simp [hv]
    · exact fun ⟨⟨hc, hz⟩, hr, hk, hl, _⟩ => hfit ⟨hc, hz, .inl ⟨hr, hk, hl⟩⟩
    · simp [hv]
    · exact fun ⟨⟨hc, hz⟩, hr, hk, hl, _⟩ => hfit ⟨hc, hz, .inl ⟨hr, hk, hl⟩⟩
    · simp [hv]
    · exact fun ⟨⟨hc, hz⟩, hr, hk, hl, _⟩ => hfit ⟨hc, hz, .inl ⟨hr, hk, hl⟩⟩
    · simp [hv]
    · exact fun ⟨⟨hc, hz⟩, hbusy⟩ => hfit ⟨hc, hz, .inr (.inl hbusy)⟩
    · simp [hv]
    · exact fun ⟨⟨hc, hz⟩, hack⟩ => hfit ⟨hc, hz, .inr (.inr hack)⟩
    · exact fun ⟨⟨hc, hz⟩, hany⟩ => hfit ⟨hc, hz, hany⟩

end Sys2Proof.Machine
end

/-! ### The receiver's happenings (R3, R5, R74, R75, R77) -/

section
namespace Sys2Proof.Machine

/-- The link once its receiver has confirmed a start bit (R3, R5). -/
def Link.startHeard (k : Link) : Link := { k with receiver := .assembling [], quietTime := 0 }

/-- The link at the end of a delivered character's stop bit (R3, R5). -/
def Link.delivered (k : Link) (samples : BitVec 10) : Link :=
  { k with receiver := if samples.getLsbD 9 then .armed else .waitMark, quietTime := quietMarks 10 samples,
           gap := if samples.getLsbD 9 then 0 else k.gap }

/-- In AWAIT a start bit stops the reply timer and begins a reception (R75). -/
theorem State.startBit_of_await {s : State} {l : Line} (hm : (s.engine l).mode ≠ .absent)
    (ht : (s.link l).transmitter = .idle) (hr : (s.link l).receiver = .armed) (hstate : (s.engine l).state = .await) :
    s.startBit l =
      (s.setLink l { (s.link l).startHeard with check := 0xFFFF, charCount := 0, stored := 0 }).setEngine l
        { s.engine l with state := .receive, replyTimer := none, gapWatch := false } := by
  simp [State.startBit, hm, ht, hr, hstate, Link.startHeard, crcStart]

/-- In RECEIVE a start bit ends the gap (R77). -/
theorem State.startBit_of_receive {s : State} {l : Line} (hm : (s.engine l).mode ≠ .absent)
    (ht : (s.link l).transmitter = .idle) (hr : (s.link l).receiver = .armed) (hstate : (s.engine l).state = .receive) :
    s.startBit l =
      (s.setLink l (s.link l).startHeard).setEngine l { s.engine l with gapWatch := false } := by
  simp [State.startBit, hm, ht, hr, hstate, Link.startHeard]

/-- In every other state the engine does not use a start bit (R74). -/
theorem State.startBit_of_unused {s : State} {l : Line} (hm : (s.engine l).mode ≠ .absent)
    (ht : (s.link l).transmitter = .idle) (hr : (s.link l).receiver = .armed) (hawait : (s.engine l).state ≠ .await)
    (hreceive : (s.engine l).state ≠ .receive) : s.startBit l = s.setLink l (s.link l).startHeard := by
  cases hstate : (s.engine l).state <;> simp_all [State.startBit, Link.startHeard]

/-- Outside RECEIVE a delivered character acts on the link alone (R74). -/
theorem State.characterDelivered_of_not_receive {s : State} {l : Line} (samples : BitVec 10)
    (hm : (s.engine l).mode ≠ .absent) (ht : (s.link l).transmitter = .idle) (hr : (s.link l).receiver ≠ .waitMark)
    (hstate : (s.engine l).state ≠ .receive) :
    s.characterDelivered l samples = s.setLink l ((s.link l).delivered samples) := by
  unfold State.characterDelivered
  rw [if_pos ⟨hm, ht, hr⟩]
  dsimp only
  split
  · contradiction
  · rfl

/-- A receiver that waits for mark is armed again by it (R3, R19). -/
theorem State.reArm_of_waitMark {s : State} {l : Line} (hm : (s.engine l).mode ≠ .absent)
    (hr : (s.link l).receiver = .waitMark) : s.reArm l = s.setLink l { s.link l with receiver := .armed } := by
  simp [State.reArm, hm, hr]

/-- Settles O40, row by row: each happening out of reset is its effect with the outputs evaluated, and the effect is the one
that the engine's state calls for. -/
theorem startBitBeginsAReception : Obligations.StartBitBeginsAReception := by
  intro s l hs hm
  refine ⟨fun ht hr => ?_, fun samples ht hr hstate => ?_, fun hr => ?_⟩
  · have hexec : exec (.startBitTaken l) s = .next (s.startBit l).drive := happening_of_running hs _
    rw [hexec]
    split
    · next hstate => rw [State.startBit_of_await hm ht hr hstate]; rfl
    · next hstate => rw [State.startBit_of_receive hm ht hr hstate]; rfl
    · next hawait hreceive => rw [State.startBit_of_unused hm ht hr hawait hreceive]; rfl
  · have hexec : exec (.characterReceived l samples) s = .next (s.characterDelivered l samples).drive :=
      happening_of_running hs _
    rw [hexec, State.characterDelivered_of_not_receive samples hm ht hr hstate]
    rfl
  · have hexec : exec (.receiverReArm l) s = .next (s.reArm l).drive := happening_of_running hs _
    rw [hexec, State.reArm_of_waitMark hm hr]
    rfl

end Sys2Proof.Machine
end

/-! # Transaction slots and payload blocks

SUPPORT. Where slots and blocks stand while an operation has some of them in hand, what each shared operation does to them,
and that every happening leaves them in their places. -/

/-! ### The blocks of the slots (R46) -/

section
namespace Sys2Proof.Machine

/-- The blocks lent to a slot, request chain first. -/
def Slot.blocks (x : Slot) : List BlockNo := x.requestChain ++ x.replyChain

@[simp] theorem Slot.blocks_cleared : Slot.cleared.blocks = [] := rfl

theorem blocksPlaces_iff (s : State) :
    BlocksPlaces s ↔
      (s.pool.free ++ (List.finRange 16).flatMap fun n => (s.slot n).blocks).Perm (List.finRange 128) := Iff.rfl

/-- The part of one slot in a list over all slots can be brought to the front. -/
theorem flatMap_slots_perm {β : Type} (f : SlotNo → List β) (n : SlotNo) :
    ((List.finRange 16).flatMap f).Perm (f n ++ ((List.finRange 16).erase n).flatMap f) :=
  (List.perm_cons_erase (List.mem_finRange n)).flatMap_right f

/-- Rewriting one slot and the free list keeps every block in one place when the two together hold the blocks they held. -/
theorem BlocksPlaces.rewrite {s : State} (h : BlocksPlaces s) (n : SlotNo) {y : Slot} {p : Pool}
    (hp : (p.free ++ y.blocks).Perm (s.pool.free ++ (s.slot n).blocks)) :
    BlocksPlaces { s with slots := s.slots.put n y, pool := p } := by
  rw [blocksPlaces_iff] at h ⊢
  have hothers : (((List.finRange 16).erase n).flatMap fun m => ((s.slots.put n y).look m).blocks) =
      ((List.finRange 16).erase n).flatMap fun m => (s.slot m).blocks := by
    refine List.flatMap_congr fun m hm => ?_
    have hne : n ≠ m := fun e => (List.nodup_finRange 16).not_mem_erase (e ▸ hm)
    rw [Table.look_put_ne _ _ hne]
    rfl
  have hnew := flatMap_slots_perm (fun m => ((s.slots.put n y).look m).blocks) n
  have hold := flatMap_slots_perm (fun m => (s.slot m).blocks) n
  rw [hothers, Table.look_put_same] at hnew
  generalize ((List.finRange 16).erase n).flatMap (fun m => (s.slot m).blocks) = others at hnew hold
  calc
    List.Perm _ (p.free ++ (y.blocks ++ others)) := hnew.append_left _
    List.Perm _ (s.pool.free ++ ((s.slot n).blocks ++ others)) := by simpa using hp.append_right others
    List.Perm _ (s.pool.free ++ (List.finRange 16).flatMap fun m => (s.slot m).blocks) := hold.symm.append_left _
    List.Perm _ (List.finRange 128) := h

/-- A creation takes the blocks of its chains from the head of the free list (R47). -/
theorem create_blocks_perm (free : List BlockNo) (q r : Nat) :
    (free.drop (q + r) ++ (free.take q ++ (free.drop q).take r)).Perm free := by
  have hcut : free.take q ++ ((free.drop q).take r ++ free.drop (q + r)) = free := by
    rw [← List.drop_drop, List.take_append_drop, List.take_append_drop]
  calc
    List.Perm _ ((free.take q ++ (free.drop q).take r) ++ free.drop (q + r)) := List.perm_append_comm
    List.Perm _ free := by rw [List.append_assoc, hcut]

end Sys2Proof.Machine
end

/-! ### The class order of a pending queue (R66) -/

section
namespace Sys2Proof.Machine

/-- A queue in class order with a slot put behind the leading ones that a test keeps ahead of it: it stays in class order when
the test keeps ahead only slots that may stand there, and every slot it does not keep ahead may stand behind. -/
theorem pairwise_insert {rank : SlotNo → Nat} {q : List SlotNo} {n : SlotNo} {ahead : SlotNo → Bool}
    (hq : q.Pairwise fun a b => rank a ≤ rank b) (hahead : ∀ m, ahead m = true → rank m ≤ rank n)
    (hbehind : ∀ m, ahead m = false → rank n ≤ rank m) :
    (q.takeWhile ahead ++ n :: q.dropWhile ahead).Pairwise fun a b => rank a ≤ rank b := by
  induction q with
  | nil => simp
  | cons m q ih =>
    obtain ⟨hm, hq⟩ := List.pairwise_cons.1 hq
    cases htest : ahead m with
    | true =>
      rw [List.takeWhile_cons_of_pos htest, List.dropWhile_cons_of_pos htest, List.cons_append, List.pairwise_cons]
      refine ⟨fun k hk => ?_, ih hq⟩
      have hk : k = n ∨ k ∈ q := by
        rw [← List.takeWhile_append_dropWhile (p := ahead) (l := q)]
        simp only [List.mem_append, List.mem_cons] at hk ⊢
        tauto
      obtain rfl | hk := hk
      · exact hahead m htest
      · exact hm k hk
    | false =>
      rw [List.takeWhile_cons_of_neg (by simp [htest]), List.dropWhile_cons_of_neg (by simp [htest]), List.nil_append,
        List.pairwise_cons, List.pairwise_cons]
      refine ⟨fun k hk => ?_, hm, hq⟩
      obtain rfl | hk := List.mem_cons.1 hk
      · exact hbehind k htest
      · exact (hbehind m htest).trans (hm k hk)

theorem insert_perm (q : List SlotNo) (n : SlotNo) (ahead : SlotNo → Bool) :
    (q.takeWhile ahead ++ n :: q.dropWhile ahead).Perm (n :: q) := by
  calc
    List.Perm _ (n :: (q.takeWhile ahead ++ q.dropWhile ahead)) := List.perm_middle
    List.Perm _ (n :: q) := by rw [List.takeWhile_append_dropWhile]

theorem State.atTailOfClass_pairwise (s : State) {q : List SlotNo} (n : SlotNo)
    (hq : q.Pairwise fun a b => s.rankOf a ≤ s.rankOf b) :
    (s.atTailOfClass q n).Pairwise fun a b => s.rankOf a ≤ s.rankOf b :=
  pairwise_insert hq (fun _ h => of_decide_eq_true h) fun _ h => (Nat.lt_of_not_le (of_decide_eq_false h)).le

theorem State.atHeadOfClass_pairwise (s : State) {q : List SlotNo} (n : SlotNo)
    (hq : q.Pairwise fun a b => s.rankOf a ≤ s.rankOf b) :
    (s.atHeadOfClass q n).Pairwise fun a b => s.rankOf a ≤ s.rankOf b :=
  pairwise_insert hq (fun _ h => (of_decide_eq_true h).le) fun _ h => Nat.le_of_not_lt (of_decide_eq_false h)

end Sys2Proof.Machine
end

/-! ### Slots in hand

An operation takes a slot out of one place and puts it into another. In between the slot is in hand: no queue, engine, record
or assembly names it, and its record may say anything. -/

section
namespace Sys2Proof.Machine

/-- A slot stands in the place that its state and line name, and in no other; a FREE one stands nowhere and is cleared. -/
structure InPlace (s : State) (n : SlotNo) : Prop where
  queued : ∀ l : Line, n ∈ (s.engine l).queue ↔ (s.slot n).state = .queued ∧ (s.slot n).line = l
  active : ∀ l : Line, (s.engine l).active = some n ↔ (s.slot n).state = .active ∧ (s.slot n).line = l
  done : n ∈ s.queue.records.map Record.slot ↔ (s.slot n).state = .done
  loading : s.port.loading = some n ↔ (s.slot n).state = .loading
  free : (s.slot n).state = .free → s.slot n = Slot.cleared

/-- A slot stands in no place. -/
structure Nowhere (s : State) (n : SlotNo) : Prop where
  queued : ∀ l : Line, n ∉ (s.engine l).queue
  active : ∀ l : Line, (s.engine l).active ≠ some n
  done : n ∉ s.queue.records.map Record.slot
  loading : s.port.loading ≠ some n

/-- What `Places` asks of the places themselves: no queue holds a slot twice, pending queues are in class order, an IDLE engine
holds no slot, the port holds one in PAYLOAD alone, and every block stands in one place. -/
structure Orderly (s : State) : Prop where
  once : ∀ l : Line, (s.engine l).queue.Nodup
  order : ∀ l : Line, (s.engine l).queue.Pairwise fun a b => s.rankOf a ≤ s.rankOf b
  idle : ∀ l : Line, (s.engine l).state = .idle → (s.engine l).active = none
  doneOnce : (s.queue.records.map Record.slot).Nodup
  payload : s.port.loading ≠ none → s.port.state = .payload
  blocks : BlocksPlaces s

/-- Every slot and every block stands in its place, but for the slots in hand, which stand nowhere. -/
structure PlacesBut (hand : List SlotNo) (s : State) : Prop where
  inPlace : ∀ n, n ∉ hand → InPlace s n
  nowhere : ∀ n ∈ hand, Nowhere s n
  orderly : Orderly s

/-- With no slot in hand this is the predicate of the statements. -/
theorem places_iff (s : State) : Places s ↔ PlacesBut [] s := by
  constructor
  · rintro ⟨hfree, ⟨hq, hqueued, honce, horder⟩, ⟨ha, hactive, hidle⟩, ⟨hd, hdone, hdoneOnce⟩, ⟨hloading, hpayload⟩,
      hblocks⟩
    refine ⟨fun n _ => ⟨fun l => ⟨hq l n, ?_⟩, fun l => ⟨ha l n, ?_⟩, ⟨?_, hdone n⟩, (hloading n).symm, hfree n⟩,
      fun _ hn => absurd hn List.not_mem_nil, honce, horder, hidle, hdoneOnce, hpayload, hblocks⟩
    · rintro ⟨hstate, rfl⟩
      exact hqueued n hstate
    · rintro ⟨hstate, rfl⟩
      exact hactive n hstate
    · intro hn
      obtain ⟨r, hr, rfl⟩ := List.mem_map.1 hn
      exact hd r hr
  · rintro ⟨hin, -, ho⟩
    have hin := fun n => hin n List.not_mem_nil
    exact ⟨fun n => (hin n).free,
      ⟨fun l n => ((hin n).queued l).1, fun n hn => ((hin n).queued _).2 ⟨hn, rfl⟩, ho.once, ho.order⟩,
      ⟨fun l n => ((hin n).active l).1, fun n hn => ((hin n).active _).2 ⟨hn, rfl⟩, ho.idle⟩,
      ⟨fun r hr => (hin r.slot).done.1 (List.mem_map_of_mem hr), fun n => (hin n).done.2, ho.doneOnce⟩,
      ⟨fun n => (hin n).loading.symm, ho.payload⟩, ho.blocks⟩

/-! ### What leaves a slot's place as it was -/

/-- The places name a slot in one state exactly as in another. -/
structure SameNames (s t : State) (n : SlotNo) : Prop where
  queued : ∀ l : Line, n ∈ (t.engine l).queue ↔ n ∈ (s.engine l).queue
  active : ∀ l : Line, (t.engine l).active = some n ↔ (s.engine l).active = some n
  done : n ∈ t.queue.records.map Record.slot ↔ n ∈ s.queue.records.map Record.slot
  loading : t.port.loading = some n ↔ s.port.loading = some n

/-- A record that stands where another stood: state, line and class are the same, and a FREE one is the same throughout. -/
structure Slot.KeepsPlace (x y : Slot) : Prop where
  state : y.state = x.state
  line : y.line = x.line
  cls : y.cls = x.cls
  free : x.state = .free → y = x

theorem Slot.KeepsPlace.refl (x : Slot) : x.KeepsPlace x := ⟨rfl, rfl, rfl, fun _ => rfl⟩

theorem InPlace.congr {s t : State} {n : SlotNo} (h : InPlace s n) (hnames : SameNames s t n)
    (hslot : (s.slot n).KeepsPlace (t.slot n)) : InPlace t n where
  queued l := by rw [hnames.queued, hslot.state, hslot.line, h.queued]
  active l := by rw [hnames.active, hslot.state, hslot.line, h.active]
  done := by rw [hnames.done, hslot.state, h.done]
  loading := by rw [hnames.loading, hslot.state, h.loading]
  free hstate := by
    rw [hslot.state] at hstate
    rw [hslot.free hstate, h.free hstate]

theorem Nowhere.congr {s t : State} {n : SlotNo} (h : Nowhere s n) (hnames : SameNames s t n) : Nowhere t n where
  queued l := by rw [hnames.queued]; exact h.queued l
  active l := by rw [Ne, hnames.active]; exact h.active l
  done := by rw [hnames.done]; exact h.done
  loading := by rw [Ne, hnames.loading]; exact h.loading

/-- A change that leaves the place of every slot as it was, but for the slots that come into the hand or leave it. -/
theorem PlacesBut.move {hand hand' : List SlotNo} {s t : State} (h : PlacesBut hand s)
    (hin : ∀ n, n ∉ hand' → n ∈ hand → InPlace t n) (hout : ∀ n ∈ hand', n ∉ hand → Nowhere t n)
    (hnames : ∀ n, (n ∈ hand ↔ n ∈ hand') → SameNames s t n)
    (hslot : ∀ n, n ∉ hand → (s.slot n).KeepsPlace (t.slot n)) (ho : Orderly t) : PlacesBut hand' t where
  inPlace n hn := by
    by_cases hheld : n ∈ hand
    · exact hin n hn hheld
    · exact (h.inPlace n hheld).congr (hnames n (iff_of_false hheld hn)) (hslot n hheld)
  nowhere n hn := by
    by_cases hheld : n ∈ hand
    · exact (h.nowhere n hheld).congr (hnames n (iff_of_true hheld hn))
    · exact hout n hn hheld
  orderly := ho

theorem SameNames.refl (s : State) (n : SlotNo) : SameNames s s n := ⟨fun _ => Iff.rfl, fun _ => Iff.rfl, Iff.rfl, Iff.rfl⟩

/-- Only slots, engines, records, the port and the free list say where slots and blocks stand. -/
theorem PlacesBut.frame {hand : List SlotNo} {s t : State} (h : PlacesBut hand s) (hslots : t.slots = s.slots)
    (hengines : t.engines = s.engines) (hrecords : t.queue.records = s.queue.records)
    (hloading : t.port.loading = s.port.loading) (hstate : s.port.loading ≠ none → t.port.state = s.port.state)
    (hfree : t.pool.free = s.pool.free) : PlacesBut hand t := by
  have hslot : t.slot = s.slot := by unfold State.slot; rw [hslots]
  have hengine : t.engine = s.engine := by unfold State.engine; rw [hengines]
  refine h.move (fun n hn hn' => absurd hn' hn) (fun n hn hn' => absurd hn hn')
    (fun n _ => ⟨fun l => by rw [hengine], fun l => by rw [hengine], by rw [hrecords], by rw [hloading]⟩)
    (fun n _ => by rw [hslot]; exact .refl _) ?_
  obtain ⟨honce, horder, hidle, hdoneOnce, hpayload, hblocks⟩ := h.orderly
  constructor
  · rwa [hengine]
  · unfold State.rankOf
    rwa [hengine, hslot]
  · rwa [hengine]
  · rwa [hrecords]
  · intro ht
    rw [hloading] at ht
    rw [hstate ht, hpayload ht]
  · unfold BlocksPlaces
    rwa [hfree, hslot]

section
variable {hand : List SlotNo} (s : State)

/-- A change outside slots, engines, records, port and free list moves no slot and no block. -/
theorem placesBut_congr {s t : State} (hslots : t.slots = s.slots) (hengines : t.engines = s.engines)
    (hrecords : t.queue.records = s.queue.records) (hport : t.port = s.port) (hfree : t.pool.free = s.pool.free) :
    PlacesBut hand t ↔ PlacesBut hand s :=
  ⟨fun h => h.frame hslots.symm hengines.symm hrecords.symm (by rw [hport]) (fun _ => by rw [hport]) hfree.symm,
    fun h => h.frame hslots hengines hrecords (by rw [hport]) (fun _ => by rw [hport]) hfree⟩

@[simp] theorem placesBut_setLink (l : Line) (x : Link) : PlacesBut hand (s.setLink l x) ↔ PlacesBut hand s :=
  placesBut_congr rfl rfl rfl rfl rfl

@[simp] theorem placesBut_setStationLine (l : Line) (x : StationLine) :
    PlacesBut hand (s.setStationLine l x) ↔ PlacesBut hand s := placesBut_congr rfl rfl rfl rfl rfl

@[simp] theorem placesBut_setSched (l : Line) (x : Scheduler) : PlacesBut hand (s.setSched l x) ↔ PlacesBut hand s :=
  placesBut_congr rfl rfl rfl rfl rfl

@[simp] theorem placesBut_modData (f : DataPort → DataPort) : PlacesBut hand (s.modData f) ↔ PlacesBut hand s :=
  placesBut_congr rfl rfl rfl rfl rfl

@[simp] theorem placesBut_raiseDmaEnd : PlacesBut hand s.raiseDmaEnd ↔ PlacesBut hand s :=
  placesBut_congr rfl rfl rfl rfl rfl

@[simp] theorem placesBut_raiseStuck (l : Line) : PlacesBut hand (s.raiseStuck l) ↔ PlacesBut hand s :=
  placesBut_congr rfl rfl rfl rfl rfl

@[simp] theorem placesBut_raiseOverrun (l : Line) : PlacesBut hand (s.raiseOverrun l) ↔ PlacesBut hand s :=
  placesBut_congr rfl rfl rfl rfl rfl

@[simp] theorem placesBut_drive : PlacesBut hand s.drive ↔ PlacesBut hand s := placesBut_congr rfl rfl rfl rfl rfl

@[simp] theorem placesBut_putChainByte (chain : List BlockNo) (i : Nat) (b : Byte) :
    PlacesBut hand (s.putChainByte chain i b) ↔ PlacesBut hand s := by
  rw [State.putChainByte_eq]
  exact placesBut_congr rfl rfl rfl rfl rfl

@[simp] theorem placesBut_updateStation (l : Line) (a : StationAddr) (f : Station → Station) :
    PlacesBut hand (s.updateStation l a f) ↔ PlacesBut hand s := by
  rw [State.updateStation_frame]
  exact placesBut_congr rfl rfl rfl rfl rfl

@[simp] theorem placesBut_desync (n : SlotNo) (o : TransactionOutcome) :
    PlacesBut hand (s.desync n o) ↔ PlacesBut hand s := by
  rw [State.desync_frame]
  exact placesBut_congr rfl rfl rfl rfl rfl

@[simp] theorem placesBut_beginCharacter (l : Line) (x : Slot) (p : Phase) (k : Nat) :
    PlacesBut hand (s.beginCharacter l x p k) ↔ PlacesBut hand s := placesBut_congr rfl rfl rfl rfl rfl

@[simp] theorem placesBut_setLost : PlacesBut hand s.setLost ↔ PlacesBut hand s :=
  ⟨fun h => h.frame rfl rfl rfl rfl (fun _ => rfl) rfl, fun h => h.frame rfl rfl rfl rfl (fun _ => rfl) rfl⟩

end

/-! ### Records rewritten -/

/-- A table of slots with one record replaced. -/
theorem State.slot_put (s : State) (n : SlotNo) (y : Slot) (p : Pool) (m : SlotNo) :
    ({ s with slots := s.slots.put n y, pool := p } : State).slot m = if n = m then y else s.slot m := Table.look_put ..

/-- The slots of a queue that does not hold the slot rewritten have the ranks they had. -/
theorem pairwise_rank_put {s t : State} {q : List SlotNo} (hrank : ∀ m ∈ q, t.rankOf m = s.rankOf m)
    (h : q.Pairwise fun a b => s.rankOf a ≤ s.rankOf b) : q.Pairwise fun a b => t.rankOf a ≤ t.rankOf b :=
  h.imp_of_mem fun ha hb hab => by rwa [hrank _ ha, hrank _ hb]

theorem Orderly.rewrite {s : State} (h : Orderly s) {n : SlotNo} {y : Slot} {p : Pool}
    (hcls : y.cls = (s.slot n).cls ∨ ∀ l, n ∉ (s.engine l).queue)
    (hblocks : (p.free ++ y.blocks).Perm (s.pool.free ++ (s.slot n).blocks)) :
    Orderly { s with slots := s.slots.put n y, pool := p } := by
  refine ⟨h.once, fun l => pairwise_rank_put (fun m hm => ?_) (h.order l), h.idle, h.doneOnce, h.payload,
    h.blocks.rewrite n hblocks⟩
  unfold State.rankOf
  rw [State.slot_put]
  split
  · next hnm =>
    obtain hcls | hnot := hcls
    · rw [hcls, hnm]
    · exact absurd (hnm ▸ hm) (hnot l)
  · rfl

/-- A slot in hand may be rewritten in any way; its blocks and the free list together stay what they were. -/
theorem PlacesBut.rewriteInHand {hand : List SlotNo} {s : State} (h : PlacesBut hand s) {n : SlotNo} (hn : n ∈ hand)
    {y : Slot} {p : Pool} (hblocks : (p.free ++ y.blocks).Perm (s.pool.free ++ (s.slot n).blocks)) :
    PlacesBut hand { s with slots := s.slots.put n y, pool := p } := by
  refine h.move (fun m hm hm' => absurd hm' hm) (fun m hm hm' => absurd hm hm') (fun m _ => ?_) (fun m hm => ?_)
    (h.orderly.rewrite (.inr (h.nowhere n hn).queued) hblocks)
  · exact ⟨fun _ => Iff.rfl, fun _ => Iff.rfl, Iff.rfl, Iff.rfl⟩
  · rw [State.slot_put, if_neg (ne_of_mem_of_not_mem hn hm)]
    exact .refl _

/-- A slot in hand is rewritten with its blocks kept. -/
theorem PlacesBut.setInHand {hand : List SlotNo} {s : State} (h : PlacesBut hand s) {n : SlotNo} (hn : n ∈ hand) {y : Slot}
    (hblocks : y.blocks = (s.slot n).blocks) : PlacesBut hand (s.setSlot n y) :=
  h.rewriteInHand hn (.of_eq (by rw [hblocks]))

/-- A slot that stands where it stood is rewritten with its blocks kept. -/
theorem PlacesBut.touch {hand : List SlotNo} {s : State} (h : PlacesBut hand s) {n : SlotNo} {y : Slot}
    (hkeeps : (s.slot n).KeepsPlace y) (hblocks : y.blocks = (s.slot n).blocks) : PlacesBut hand (s.setSlot n y) := by
  refine h.move (fun m hm hm' => absurd hm' hm) (fun m hm hm' => absurd hm hm')
    (fun _ _ => ⟨fun _ => Iff.rfl, fun _ => Iff.rfl, Iff.rfl, Iff.rfl⟩) (fun m _ => ?_)
    (h.orderly.rewrite (.inl hkeeps.cls) (.of_eq (by rw [hblocks])))
  rw [State.setSlot_slot]
  split
  · next hnm => exact hnm ▸ hkeeps
  · exact .refl _

/-! ### Slots taken into hand -/

section
variable {s : State} {n : SlotNo} (h : InPlace s n)
include h

theorem InPlace.not_queued (hstate : (s.slot n).state ≠ .queued) (l : Line) : n ∉ (s.engine l).queue :=
  fun hn => hstate ((h.queued l).1 hn).1

theorem InPlace.not_active (hstate : (s.slot n).state ≠ .active) (l : Line) : (s.engine l).active ≠ some n :=
  fun hn => hstate ((h.active l).1 hn).1

theorem InPlace.not_done (hstate : (s.slot n).state ≠ .done) : n ∉ s.queue.records.map Record.slot :=
  fun hn => hstate (h.done.1 hn)

theorem InPlace.not_loading (hstate : (s.slot n).state ≠ .loading) : s.port.loading ≠ some n :=
  fun hn => hstate (h.loading.1 hn)

/-- A FREE slot stands nowhere. -/
theorem InPlace.nowhere_of_free (hstate : (s.slot n).state = .free) : Nowhere s n :=
  ⟨h.not_queued (by simp [hstate]), h.not_active (by simp [hstate]), h.not_done (by simp [hstate]),
    h.not_loading (by simp [hstate])⟩

end

/-- Coming into the hand is a change of one slot's place. -/
theorem PlacesBut.take {hand : List SlotNo} {s t : State} {n : SlotNo} (h : PlacesBut hand s) (hn : n ∉ hand)
    (hnowhere : Nowhere t n) (hnames : ∀ m, m ≠ n → SameNames s t m) (hslot : t.slots = s.slots) (ho : Orderly t) :
    PlacesBut (n :: hand) t := by
  have hslot : t.slot = s.slot := by unfold State.slot; rw [hslot]
  refine h.move (fun m hm hm' => absurd (List.mem_cons_of_mem n hm') hm) (fun m hm hm' => ?_) (fun m hm => hnames m ?_)
    (fun m _ => by rw [hslot]; exact .refl _) ho
  · rwa [(List.mem_cons.1 hm).resolve_right hm']
  · rintro rfl
    exact hn (hm.2 List.mem_cons_self)

theorem PlacesBut.takeFree {hand : List SlotNo} {s : State} (h : PlacesBut hand s) {n : SlotNo} (hn : n ∉ hand)
    (hstate : (s.slot n).state = .free) : PlacesBut (n :: hand) s :=
  h.take hn ((h.inPlace n hn).nowhere_of_free hstate) (fun m _ => .refl s m) rfl h.orderly

/-- What holds of the engine written and of every other engine holds of the engines of every line. -/
theorem State.forall_setEngine {s : State} {l : Line} {e : Engine} (P : Line → Engine → Prop) (hl : P l e)
    (hother : ∀ k, l ≠ k → P k (s.engine k)) (k : Line) : P k ((s.setEngine l e).engine k) := by
  rw [State.setEngine_engine]
  split
  · next hlk => exact hlk ▸ hl
  · next hlk => exact hother k hlk

/-- An engine that holds the queue and the active slot of another, and is not IDLE with a slot. -/
structure Engine.SameSlots (e e' : Engine) : Prop where
  queue : e'.queue = e.queue
  active : e'.active = e.active
  idle : e'.state = .idle → e.state = .idle ∨ e'.active = none

theorem sameNames_setEngine {s : State} {l : Line} {e : Engine} {n : SlotNo} (hq : n ∈ e.queue ↔ n ∈ (s.engine l).queue)
    (ha : e.active = some n ↔ (s.engine l).active = some n) : SameNames s (s.setEngine l e) n where
  queued := State.forall_setEngine (fun k e => n ∈ e.queue ↔ n ∈ (s.engine k).queue) hq fun _ _ => Iff.rfl
  active := State.forall_setEngine (fun k e => e.active = some n ↔ (s.engine k).active = some n) ha fun _ _ => Iff.rfl
  done := Iff.rfl
  loading := Iff.rfl

theorem Orderly.setEngine {s : State} (h : Orderly s) {l : Line} {e : Engine} (honce : e.queue.Nodup)
    (horder : e.queue.Pairwise fun a b => s.rankOf a ≤ s.rankOf b) (hidle : e.state = .idle → e.active = none) :
    Orderly (s.setEngine l e) where
  once := State.forall_setEngine (fun _ e => e.queue.Nodup) honce fun k _ => h.once k
  order := State.forall_setEngine (fun _ e => e.queue.Pairwise fun a b => s.rankOf a ≤ s.rankOf b) horder
    fun k _ => h.order k
  idle := State.forall_setEngine (fun _ e => e.state = .idle → e.active = none) hidle fun k _ => h.idle k
  doneOnce := h.doneOnce
  payload := h.payload
  blocks := h.blocks

theorem PlacesBut.setEngine {hand : List SlotNo} {s : State} (h : PlacesBut hand s) {l : Line} {e : Engine}
    (he : (s.engine l).SameSlots e) : PlacesBut hand (s.setEngine l e) := by
  refine h.move (fun m hm hm' => absurd hm' hm) (fun m hm hm' => absurd hm hm')
    (fun m _ => sameNames_setEngine (by rw [he.queue]) (by rw [he.active])) (fun m _ => .refl _)
    (h.orderly.setEngine ?_ ?_ fun hstate => ?_)
  · rw [he.queue]
    exact h.orderly.once l
  · rw [he.queue]
    exact h.orderly.order l
  · obtain hidle | hnone := he.idle hstate
    · rw [he.active]
      exact h.orderly.idle l hidle
    · exact hnone

/-- Slots of a pending queue are taken into hand; the rest of the queue keeps its order. -/
theorem PlacesBut.dequeue {hand out : List SlotNo} {s : State} (h : PlacesBut hand s) {l : Line} {e : Engine}
    (hperm : (s.engine l).queue.Perm (out ++ e.queue)) (hsub : e.queue.Sublist (s.engine l).queue)
    (hactive : e.active = (s.engine l).active) (hstate : e.state = (s.engine l).state) :
    PlacesBut (out ++ hand) (s.setEngine l e) := by
  have honce : (out ++ e.queue).Nodup := hperm.nodup_iff.1 (h.orderly.once l)
  refine h.move (fun m hm hm' => absurd (List.mem_append_right out hm') hm) (fun m hm hm' => ?_) (fun m hm => ?_)
    (fun m _ => .refl _) (h.orderly.setEngine (honce.of_append_right) ((h.orderly.order l).sublist hsub) fun hs => ?_)
  · have hout : m ∈ out := (List.mem_append.1 hm).resolve_right hm'
    have hin := h.inPlace m hm'
    obtain ⟨hqueued, hline⟩ := (hin.queued l).1 (hperm.mem_iff.2 (List.mem_append_left _ hout))
    have hnot := hin.not_active (by simp [hqueued])
    exact ⟨State.forall_setEngine (fun _ e => m ∉ e.queue) (fun hq => (List.nodup_append.1 honce).2.2 m hout m hq rfl)
        fun k hlk hq => hlk (hline.symm.trans ((hin.queued k).1 hq).2),
      State.forall_setEngine (fun _ e => e.active ≠ some m) (hactive ▸ hnot l) fun k _ => hnot k,
      hin.not_done (by simp [hqueued]), hin.not_loading (by simp [hqueued])⟩
  · refine sameNames_setEngine ?_ (by rw [hactive])
    rw [hperm.mem_iff, List.mem_append, Iff.comm, or_iff_right_iff_imp]
    intro hout
    have hm' : m ∈ hand := hm.2 (List.mem_append_left _ hout)
    exact absurd (hperm.mem_iff.2 (List.mem_append_left _ hout)) ((h.nowhere m hm').queued l)
  · rw [hactive]
    rw [hstate] at hs
    exact h.orderly.idle l hs

/-- The active slot of an engine is taken into hand. -/
theorem PlacesBut.deactivate {hand : List SlotNo} {s : State} (h : PlacesBut hand s) {l : Line} {n : SlotNo} {e : Engine}
    (hn : (s.engine l).active = some n) (hnone : e.active = none) (hqueue : e.queue = (s.engine l).queue) :
    PlacesBut (n :: hand) (s.setEngine l e) := by
  have hnh : n ∉ hand := fun hn' => (h.nowhere n hn').active l hn
  have hin := h.inPlace n hnh
  obtain ⟨hactive, hline⟩ := (hin.active l).1 hn
  have hnot := hin.not_queued (by simp [hactive])
  have hnowhere : Nowhere (s.setEngine l e) n :=
    ⟨State.forall_setEngine (fun _ e => n ∉ e.queue) (hqueue ▸ hnot l) fun k _ => hnot k,
      State.forall_setEngine (fun _ e => e.active ≠ some n) (by simp [hnone])
        fun k hlk ha => hlk (hline.symm.trans ((hin.active k).1 ha).2),
      hin.not_done (by simp [hactive]), hin.not_loading (by simp [hactive])⟩
  exact h.take hnh hnowhere (fun m hm => sameNames_setEngine (by rw [hqueue]) (by simp [hnone, hn, hm.symm])) rfl
    (h.orderly.setEngine (hqueue ▸ h.orderly.once l) (hqueue ▸ h.orderly.order l) fun _ => hnone)

/-- The LOADING slot, if there is one, leaves the port's assembly for the hand. -/
theorem PlacesBut.unload {hand : List SlotNo} {s : State} (h : PlacesBut hand s) {p : CommandPort} (hp : p.loading = none) :
    PlacesBut (s.port.loading.toList ++ hand) { s with port := p } := by
  refine h.move (fun m hm hm' => absurd (List.mem_append_right _ hm') hm) (fun m hm hm' => ?_) (fun m hm => ?_)
    (fun m _ => .refl _) ⟨h.orderly.once, h.orderly.order, h.orderly.idle, h.orderly.doneOnce, fun hp' => absurd hp hp',
      h.orderly.blocks⟩
  · have hloading : s.port.loading = some m := by simpa using (List.mem_append.1 hm).resolve_right hm'
    have hin := h.inPlace m hm'
    have hstate := hin.loading.1 hloading
    exact ⟨hin.not_queued (by simp [hstate]), hin.not_active (by simp [hstate]), hin.not_done (by simp [hstate]),
      by simp [hp]⟩
  · refine ⟨fun _ => Iff.rfl, fun _ => Iff.rfl, Iff.rfl, ?_⟩
    have hne : s.port.loading ≠ some m := fun hloading =>
      (h.nowhere m (hm.2 (by simp [hloading]))).loading hloading
    simp [hp, hne]

/-- A posted response takes the LOADING slot, if there is one, into hand. -/
theorem PlacesBut.post {hand : List SlotNo} {s : State} (h : PlacesBut hand s) (code : ResponseCode) (info : List Byte) :
    PlacesBut (s.port.loading.toList ++ hand) (s.post code info) := h.unload rfl

/-- The slot of the head record is taken into hand. -/
theorem PlacesBut.unrecord {hand : List SlotNo} {s : State} (h : PlacesBut hand s) {r : Record} {q : CompletionQueue}
    (hq : s.queue.records = r :: q.records) : PlacesBut (r.slot :: hand) { s with queue := q } := by
  have hslots : s.queue.records.map Record.slot = r.slot :: q.records.map Record.slot := by rw [hq, List.map_cons]
  obtain ⟨hnot, honce⟩ := List.nodup_cons.1 (hslots ▸ h.orderly.doneOnce)
  have hnh : r.slot ∉ hand := fun hr => (h.nowhere _ hr).done (by simp [hslots])
  have hin := h.inPlace _ hnh
  have hstate := hin.done.1 (by simp [hslots])
  exact h.take hnh
    ⟨hin.not_queued (by simp [hstate]), hin.not_active (by simp [hstate]), hnot, hin.not_loading (by simp [hstate])⟩
    (fun m hm => ⟨fun _ => Iff.rfl, fun _ => Iff.rfl, by simp [hslots, hm], Iff.rfl⟩) rfl
    ⟨h.orderly.once, h.orderly.order, h.orderly.idle, honce, h.orderly.payload, h.orderly.blocks⟩

/-! ### Slots put into place -/

/-- Leaving the hand is a change of one slot's place. -/
theorem PlacesBut.put {hand : List SlotNo} {s t : State} {n : SlotNo} (h : PlacesBut (n :: hand) s) (hn : n ∉ hand)
    (hin : InPlace t n) (hnames : ∀ m, m ≠ n → SameNames s t m) (hslot : t.slots = s.slots) (ho : Orderly t) :
    PlacesBut hand t := by
  have hslot : t.slot = s.slot := by unfold State.slot; rw [hslot]
  refine h.move (fun m hm hm' => ?_) (fun m hm hm' => absurd (List.mem_cons_of_mem n hm) hm') (fun m hm => hnames m ?_)
    (fun m _ => by rw [hslot]; exact .refl _) ho
  · rwa [(List.mem_cons.1 hm').resolve_right hm]
  · rintro rfl
    exact hn (hm.1 List.mem_cons_self)

/-- A cleared slot is FREE and need not be in hand. -/
theorem PlacesBut.putFree {hand : List SlotNo} {s : State} {n : SlotNo} (h : PlacesBut (n :: hand) s) (hn : n ∉ hand)
    (hcleared : s.slot n = Slot.cleared) : PlacesBut hand s := by
  have hnowhere := h.nowhere n List.mem_cons_self
  refine h.put hn ⟨fun l => ?_, fun l => ?_, ?_, ?_, fun _ => hcleared⟩ (fun m _ => .refl s m) rfl h.orderly
  · simp [hnowhere.queued, hcleared, Slot.cleared]
  · simp [hnowhere.active, hcleared, Slot.cleared]
  · simp only [hcleared, Slot.cleared, iff_false, reduceCtorEq]
    exact hnowhere.done
  · simp [hnowhere.loading, hcleared, Slot.cleared]

/-- A QUEUED slot joins the pending queue of its line at a place that keeps the class order. -/
theorem PlacesBut.enqueue {hand : List SlotNo} {s : State} {n : SlotNo} (h : PlacesBut (n :: hand) s) (hn : n ∉ hand)
    {l : Line} {e : Engine} (hstate : (s.slot n).state = .queued) (hline : (s.slot n).line = l)
    (hperm : e.queue.Perm (n :: (s.engine l).queue)) (horder : e.queue.Pairwise fun a b => s.rankOf a ≤ s.rankOf b)
    (hactive : e.active = (s.engine l).active) (hidle : e.state = (s.engine l).state) :
    PlacesBut hand (s.setEngine l e) := by
  have hnowhere := h.nowhere n List.mem_cons_self
  have ho := h.orderly
  have hnot : (s.slot n).state ≠ .active := by simp [hstate]
  refine h.put hn
    ⟨State.forall_setEngine (fun k e => n ∈ e.queue ↔ (s.slot n).state = .queued ∧ (s.slot n).line = k)
        (by simp [hperm.mem_iff, hstate, hline]) fun k hlk => by simp [hnowhere.queued k, hline, hlk],
      State.forall_setEngine (fun k e => e.active = some n ↔ (s.slot n).state = .active ∧ (s.slot n).line = k)
        (by simp [hactive, hnowhere.active l, hnot]) fun k _ => by simp [hnowhere.active k, hnot],
      iff_of_false hnowhere.done fun hs => (nomatch hstate.symm.trans hs),
      iff_of_false hnowhere.loading fun hs => (nomatch hstate.symm.trans hs), fun hs => (nomatch hstate.symm.trans hs)⟩
    (fun m hm => sameNames_setEngine (by simp [hperm.mem_iff, hm]) (by rw [hactive])) rfl
    (ho.setEngine (hperm.nodup_iff.2 (List.nodup_cons.2 ⟨hnowhere.queued l, ho.once l⟩)) horder fun hs => ?_)
  rw [hactive]
  exact ho.idle l (hidle ▸ hs)

/-- An ACTIVE slot becomes the active slot of an engine of its line that holds none. -/
theorem PlacesBut.activate {hand : List SlotNo} {s : State} {n : SlotNo} (h : PlacesBut (n :: hand) s) (hn : n ∉ hand)
    {l : Line} {e : Engine} (hstate : (s.slot n).state = .active) (hline : (s.slot n).line = l)
    (hnone : (s.engine l).active = none) (hactive : e.active = some n) (hqueue : e.queue = (s.engine l).queue)
    (hidle : e.state ≠ .idle) : PlacesBut hand (s.setEngine l e) := by
  have hnowhere := h.nowhere n List.mem_cons_self
  have ho := h.orderly
  have hnot : (s.slot n).state ≠ .queued := by simp [hstate]
  exact h.put hn
    ⟨State.forall_setEngine (fun k e => n ∈ e.queue ↔ (s.slot n).state = .queued ∧ (s.slot n).line = k)
        (by simp [hqueue, hnowhere.queued l, hnot]) fun k _ => by simp [hnowhere.queued k, hnot],
      State.forall_setEngine (fun k e => e.active = some n ↔ (s.slot n).state = .active ∧ (s.slot n).line = k)
        (by simp [hactive, hstate, hline]) fun k hlk => by simp [hnowhere.active k, hline, hlk],
      iff_of_false hnowhere.done fun hs => (nomatch hstate.symm.trans hs),
      iff_of_false hnowhere.loading fun hs => (nomatch hstate.symm.trans hs), fun hs => (nomatch hstate.symm.trans hs)⟩
    (fun m hm => sameNames_setEngine (by rw [hqueue]) (by simp [hactive, hnone, hm.symm])) rfl
    (ho.setEngine (hqueue ▸ ho.once l) (hqueue ▸ ho.order l) fun hs => absurd hs hidle)

/-- A DONE slot's record joins the Completion Queue. -/
theorem PlacesBut.record {hand : List SlotNo} {s : State} {r : Record} (h : PlacesBut (r.slot :: hand) s)
    (hn : r.slot ∉ hand) {q : CompletionQueue} (hstate : (s.slot r.slot).state = .done)
    (hq : q.records = s.queue.records ++ [r]) : PlacesBut hand { s with queue := q } := by
  have hnowhere := h.nowhere _ List.mem_cons_self
  have hslots : q.records.map Record.slot = s.queue.records.map Record.slot ++ [r.slot] := by simp [hq]
  have honce : (q.records.map Record.slot).Nodup := by
    rw [hslots, List.nodup_append_comm, List.singleton_append, List.nodup_cons]
    exact ⟨hnowhere.done, h.orderly.doneOnce⟩
  exact h.put hn
    ⟨fun k => iff_of_false (hnowhere.queued k) fun hs => (nomatch hstate.symm.trans hs.1),
      fun k => iff_of_false (hnowhere.active k) fun hs => (nomatch hstate.symm.trans hs.1),
      iff_of_true (by simp [hslots]) hstate, iff_of_false hnowhere.loading fun hs => (nomatch hstate.symm.trans hs),
      fun hs => (nomatch hstate.symm.trans hs)⟩
    (fun m hm => ⟨fun _ => Iff.rfl, fun _ => Iff.rfl, by simp [hslots, hm], Iff.rfl⟩) rfl
    ⟨h.orderly.once, h.orderly.order, h.orderly.idle, honce, h.orderly.payload, h.orderly.blocks⟩

/-- A LOADING slot becomes the one of the port's assembly, in PAYLOAD, when the port holds none. -/
theorem PlacesBut.load {hand : List SlotNo} {s : State} {n : SlotNo} (h : PlacesBut (n :: hand) s) (hn : n ∉ hand)
    {p : CommandPort} (hstate : (s.slot n).state = .loading) (hnone : s.port.loading = none) (hp : p.loading = some n)
    (hpayload : p.state = .payload) : PlacesBut hand { s with port := p } := by
  have hnowhere := h.nowhere n List.mem_cons_self
  exact h.put hn
    ⟨fun k => iff_of_false (hnowhere.queued k) fun hs => (nomatch hstate.symm.trans hs.1),
      fun k => iff_of_false (hnowhere.active k) fun hs => (nomatch hstate.symm.trans hs.1),
      iff_of_false hnowhere.done fun hs => (nomatch hstate.symm.trans hs), iff_of_true hp hstate,
      fun hs => (nomatch hstate.symm.trans hs)⟩
    (fun m hm => ⟨fun _ => Iff.rfl, fun _ => Iff.rfl, Iff.rfl, by simp [hp, hnone, hm.symm]⟩) rfl
    ⟨h.orderly.once, h.orderly.order, h.orderly.idle, h.orderly.doneOnce, fun _ => hpayload, h.orderly.blocks⟩

end Sys2Proof.Machine
end

/-! ### What the shared operations move (R20, R23, R29, R32, R35, R43, R47, R49) -/

section
namespace Sys2Proof.Machine

theorem State.rankOf_setSlot (s : State) {n : SlotNo} {y : Slot} (hcls : y.cls = (s.slot n).cls) (m : SlotNo) :
    (s.setSlot n y).rankOf m = s.rankOf m := by
  unfold State.rankOf
  rw [State.setSlot_slot]
  split
  · next hnm => rw [hcls, hnm]
  · rfl

section
variable {hand : List SlotNo} {s : State} {n : SlotNo}

/-- A slot in hand joins the pending queue of its line at any place that keeps the class order. -/
theorem PlacesBut.joinBy (h : PlacesBut (n :: hand) s) (hn : n ∉ hand) {q : List SlotNo}
    (hperm : q.Perm (n :: (s.engine (s.slot n).line).queue)) (horder : q.Pairwise fun a b => s.rankOf a ≤ s.rankOf b) :
    PlacesBut hand ((s.setSlot n { s.slot n with state := .queued }).setEngine (s.slot n).line
      { s.engine (s.slot n).line with queue := q }) := by
  have hqueued : PlacesBut (n :: hand) (s.setSlot n { s.slot n with state := .queued }) :=
    h.setInHand List.mem_cons_self rfl
  have hrank : ∀ m, (s.setSlot n { s.slot n with state := .queued }).rankOf m = s.rankOf m := s.rankOf_setSlot rfl
  exact hqueued.enqueue hn (by simp) (by simp) hperm (pairwise_rank_put (fun m _ => hrank m) horder) rfl rfl

theorem PlacesBut.joinTail (h : PlacesBut (n :: hand) s) (hn : n ∉ hand) : PlacesBut hand (s.joinTail n) :=
  h.joinBy hn (insert_perm ..) (s.atTailOfClass_pairwise n (h.orderly.order _))

theorem PlacesBut.joinHead (h : PlacesBut (n :: hand) s) (hn : n ∉ hand) : PlacesBut hand (s.joinHead n) :=
  h.joinBy hn (insert_perm ..) (s.atHeadOfClass_pairwise n (h.orderly.order _))

/-- A slot in hand becomes FREE, its blocks go back to the free list. -/
theorem PlacesBut.freeSlot (h : PlacesBut (n :: hand) s) (hn : n ∉ hand) : PlacesBut hand (s.freeSlot n) := by
  have hcleared : PlacesBut (n :: hand) (s.freeSlot n) :=
    h.rewriteInHand List.mem_cons_self (.of_eq (by simp [Slot.blocks, Slot.cleared]))
  exact hcleared.putFree hn (by simp)

/-- A FREE slot is made a slot of any record, its blocks are lent; it is in hand until it is put in its place. -/
theorem PlacesBut.create (h : PlacesBut hand s) (hn : n ∉ hand) (hfree : (s.slot n).state = .free) (x : Slot) :
    PlacesBut (n :: hand) (s.create n x) := by
  refine (h.takeFree hn hfree).rewriteInHand List.mem_cons_self ?_
  rw [(h.inPlace n hn).free hfree, Slot.blocks_cleared, List.append_nil]
  exact create_blocks_perm ..

theorem PlacesBut.handToQueue (h : PlacesBut (n :: hand) s) (hn : n ∉ hand) (kind : RecordKind) :
    PlacesBut hand (s.handToQueue n kind) := by
  have hdone : PlacesBut (n :: hand) (s.setSlot n { s.slot n with state := .done }) :=
    h.setInHand List.mem_cons_self rfl
  exact hdone.record (r := ⟨n, kind, s.derivedOf (s.slot n).line (s.slot n).station⟩) hn (by simp) rfl

theorem PlacesBut.pollHandOn (h : PlacesBut (n :: hand) s) (hn : n ∉ hand) (o : TransactionOutcome) :
    PlacesBut hand (s.pollHandOn n o) := by
  unfold State.pollHandOn
  dsimp only
  split
  · split
    · exact PlacesBut.handToQueue (by simpa using h) hn _
    · rw [State.modEntry_eq, placesBut_setSched]
      exact PlacesBut.freeSlot (by simpa using h) hn
  · rw [State.modEntry_eq, placesBut_setSched]
    exact h.freeSlot hn

/-- A slot in hand that completes is DONE with its record in the Completion Queue, or FREE. -/
theorem PlacesBut.complete (h : PlacesBut (n :: hand) s) (hn : n ∉ hand) (o : TransactionOutcome) :
    PlacesBut hand (s.complete n o) := by
  have hended : PlacesBut (n :: hand) ((s.modSlot n fun x => { x with outcome := some o, doneTime := s.tick }).desync n o) :=
    (placesBut_desync ..).2 (h.setInHand List.mem_cons_self rfl)
  unfold State.complete State.handOn
  dsimp only
  split
  · exact hended.handToQueue hn _
  · exact hended.pollHandOn hn o

/-- The head record's slot becomes FREE. -/
theorem PlacesBut.retireHead (h : PlacesBut [] s) : PlacesBut [] s.retireHead := by
  unfold State.retireHead
  split
  · exact h
  · next r rest hrecords =>
    have hretired : PlacesBut [] (s.dropRecord.freeSlot r.slot) :=
      PlacesBut.freeSlot (h.unrecord (by rw [hrecords]; rfl)) List.not_mem_nil
    dsimp only
    split
    · rwa [State.modEntry_eq, placesBut_setSched]
    · exact hretired

end

/-- Slots in hand complete one after another. -/
theorem PlacesBut.completeAll {hand ns : List SlotNo} {s : State} (h : PlacesBut (ns ++ hand) s) (hnodup : (ns ++ hand).Nodup)
    (o : TransactionOutcome) : PlacesBut hand (s.completeAll ns o) := by
  induction ns generalizing s with
  | nil => exact h
  | cons n ns ih =>
    obtain ⟨hn, hnodup⟩ := List.nodup_cons.1 hnodup
    exact ih (h.complete hn o) hnodup

/-- A line's pending queue completes and is empty (R40, R41, R42). -/
theorem PlacesBut.completeQueue {s : State} (h : PlacesBut [] s) (l : Line) (o : TransactionOutcome) :
    PlacesBut [] (s.completeQueue l o) := by
  have hout : PlacesBut ((s.engine l).queue ++ []) (s.modEngine l fun e => { e with queue := [] }) :=
    h.dequeue (by simp) (List.nil_sublist _) rfl rfl
  exact hout.completeAll (by simpa using h.orderly.once l) o

/-! ### What completions leave as it was -/

@[simp] theorem State.complete_engine (s : State) (n : SlotNo) (o : TransactionOutcome) (k : Line) :
    (s.complete n o).engine k = s.engine k := by
  rw [State.complete_frame]
  rfl

@[simp] theorem State.complete_port (s : State) (n : SlotNo) (o : TransactionOutcome) : (s.complete n o).port = s.port := by
  rw [State.complete_frame]

@[simp] theorem State.completeQueue_port (s : State) (l : Line) (o : TransactionOutcome) :
    (s.completeQueue l o).port = s.port := by
  unfold State.completeQueue
  rw [State.completeAll_frame]
  rfl

theorem State.completeQueue_engine (s : State) (l : Line) (o : TransactionOutcome) (k : Line) :
    (s.completeQueue l o).engine k = (s.setEngine l { s.engine l with queue := [] }).engine k := by
  unfold State.completeQueue
  rw [State.completeAll_frame]
  rfl

end Sys2Proof.Machine
end

/-! ### What the engines move (R32, R37, R67 to R86) -/

section
namespace Sys2Proof.Machine

/-- An engine whose state stays, or is not IDLE, holds its queue and its slot. -/
theorem Engine.SameSlots.of_state {e e' : Engine} (hqueue : e'.queue = e.queue) (hactive : e'.active = e.active)
    (hstate : e'.state = e.state ∨ e'.state ≠ .idle) : e.SameSlots e' :=
  ⟨hqueue, hactive, fun hidle => .inl (hstate.elim (fun h => h ▸ hidle) fun h => absurd hidle h)⟩

theorem Engine.stopWaiting_sameSlots (e : Engine) : e.SameSlots e.stopWaiting := .of_state rfl rfl (.inl rfl)

theorem Engine.toOff_sameSlots (e : Engine) : e.SameSlots e.toOff := .of_state rfl rfl (.inr nofun)

theorem Engine.drain_sameSlots (e : Engine) (k : DrainKind) : e.SameSlots (e.drain k) := .of_state rfl rfl (.inl rfl)

/-- SETTLE is left into IDLE only by an engine with no slot (R82). -/
theorem Engine.leaveSettle_sameSlots (e : Engine) : e.SameSlots e.leaveSettle := by
  unfold Engine.leaveSettle
  split
  · exact .of_state rfl rfl (.inr nofun)
  · next hnone =>
    split
    · exact ⟨rfl, rfl, fun _ => .inr hnone⟩
    · exact .of_state rfl rfl (.inl rfl)

theorem Engine.settle_sameSlots (e : Engine) (quiet : Nat) : e.SameSlots (e.settle quiet) := by
  unfold Engine.settle
  dsimp only
  split
  · exact .of_state rfl rfl (.inr nofun)
  · split
    · obtain ⟨hqueue, hactive, hidle⟩ :=
        Engine.leaveSettle_sameSlots { e with state := .settle, stuckTimer := some stuckLimit, stuckRaised := false }
      exact ⟨hqueue, hactive, fun hs => .inr ((hidle hs).resolve_left nofun)⟩
    · exact .of_state rfl rfl (.inr nofun)

@[simp] theorem State.updateStation_engine (s : State) (l : Line) (a : StationAddr) (f : Station → Station) (k : Line) :
    (s.updateStation l a f).engine k = s.engine k := by
  rw [State.updateStation_frame]
  rfl

theorem State.setEngine_setEngine (s : State) (l : Line) (x y : Engine) :
    (s.setEngine l x).setEngine l y = s.setEngine l y := by simp [State.setEngine]

section
variable {hand : List SlotNo} {s : State} {l : Line} {n : SlotNo}

theorem PlacesBut.settle (h : PlacesBut hand s) (l : Line) : PlacesBut hand (s.settle l) :=
  h.setEngine (Engine.settle_sameSlots _ _)

/-- The active slot of an engine is ACTIVE. -/
theorem PlacesBut.active_state (h : PlacesBut hand s) (hn : (s.engine l).active = some n) : (s.slot n).state = .active :=
  (((h.inPlace n fun hn' => (h.nowhere n hn').active l hn).active l).1 hn).1

/-- The active slot of an engine is rewritten where it stands. -/
theorem PlacesBut.touchActive (h : PlacesBut hand s) (hn : (s.engine l).active = some n) {y : Slot}
    (hstate : y.state = (s.slot n).state) (hline : y.line = (s.slot n).line) (hcls : y.cls = (s.slot n).cls)
    (hblocks : y.blocks = (s.slot n).blocks) : PlacesBut hand (s.setSlot n y) :=
  h.touch ⟨hstate, hline, hcls, fun hfree => nomatch (h.active_state hn).symm.trans hfree⟩ hblocks

/-- An engine that holds no slot leaves the one it held in hand. -/
theorem PlacesBut.release (h : PlacesBut hand s) (hn : (s.engine l).active = some n) :
    PlacesBut (n :: hand) (s.modEngine l Engine.release) := h.deactivate hn rfl rfl

theorem PlacesBut.completeActive (h : PlacesBut [] s) (hn : (s.engine l).active = some n) (o : TransactionOutcome) :
    PlacesBut [] (s.completeActive l n o) := (h.release hn).complete List.not_mem_nil o

theorem PlacesBut.finishActive (h : PlacesBut [] s) (hn : (s.engine l).active = some n) (o : TransactionOutcome) :
    PlacesBut [] (s.finishActive l n o) := (h.completeActive hn o).settle l

/-! ### Verdicts -/

/-- A failed attempt puts the slot back into its queue, or completes it. -/
theorem PlacesBut.retry (h : PlacesBut (n :: hand) s) (hn : n ∉ hand) (f : Failure) : PlacesBut hand (s.retry n f) := by
  have hfailed : PlacesBut (n :: hand) (s.modSlot n fun x => { x with lastFailure := some f }) :=
    h.setInHand List.mem_cons_self rfl
  unfold State.retry
  dsimp only
  split
  · split
    · exact hfailed.joinTail hn
    · exact hfailed.joinHead hn
  · exact hfailed.complete hn _

theorem PlacesBut.actOnVerdict (h : PlacesBut [] s) (hn : (s.engine l).active = some n) (v : Verdict) :
    PlacesBut [] (s.actOnVerdict l n v) := by
  have hstored : PlacesBut [] (s.modSlot n fun x => { x with replyLength := some (s.link l).stored }) :=
    h.touchActive hn rfl rfl rfl rfl
  cases v with
  | goodReply => exact hstored.finishActive hn _
  | replyTooLong => exact hstored.finishActive hn _
  | goodAck =>
    have hresynced : PlacesBut [] (s.modEngine l Engine.resyncDone) := h.setEngine (.of_state rfl rfl (.inl rfl))
    exact hresynced.settle l
  | failed f => exact ((h.release hn).retry List.not_mem_nil f).settle l

theorem PlacesBut.verdict (h : PlacesBut [] s) (l : Line) (v : Verdict) : PlacesBut [] (s.verdict l v) := by
  unfold State.verdict
  split
  · exact h
  · next n hn =>
    have hstopped : PlacesBut [] (s.modEngine l Engine.stopWaiting) := h.setEngine (Engine.stopWaiting_sameSlots _)
    have hactive : ((s.modEngine l Engine.stopWaiting).engine l).active = some n := by simp [Engine.stopWaiting, hn]
    dsimp only
    split
    · exact hstopped.finishActive hactive _
    · split
      · exact hstopped.actOnVerdict hactive v
      · exact ((placesBut_updateStation ..).2 hstopped).actOnVerdict (by rw [State.updateStation_engine, hactive]) v

/-! ### Taking and sending -/

theorem PlacesBut.takeHead (h : PlacesBut [] s) (l : Line) : PlacesBut [] (s.takeHead l) := by
  unfold State.takeHead
  dsimp only
  split
  · next hidle =>
    split
    · exact h
    · next n rest hqueue =>
      have hline : (s.slot n).line = l := (((h.inPlace n List.not_mem_nil).queued l).1 (by simp [hqueue])).2
      have hout : PlacesBut [n] (s.setEngine l { s.engine l with queue := rest }) :=
        h.dequeue (out := [n]) (.of_eq hqueue) (hqueue ▸ List.sublist_cons_self n rest) rfl rfl
      have hactive : PlacesBut [n] ((s.modSlot n fun x => { x with state := .active }).setEngine l
        { s.engine l with queue := rest }) := hout.setInHand List.mem_cons_self rfl
      have hnone : (s.engine l).active = none := h.orderly.idle l hidle.1
      rw [← State.setEngine_setEngine _ l { s.engine l with queue := rest }]
      exact hactive.activate List.not_mem_nil (by simp) (by simp [hline]) (by simp [hnone]) rfl
        (by simp [Engine.enterGuard]) nofun
  · exact h

theorem PlacesBut.leadExpired (h : PlacesBut [] s) (l : Line) : PlacesBut [] (s.leadExpired l) := by
  unfold State.leadExpired
  dsimp only
  split
  · split
    · next n p hn hp =>
      rw [placesBut_beginCharacter, State.modLink_eq, placesBut_setLink]
      split
      · exact h.setEngine (.of_state rfl rfl (.inr nofun))
      · have hbegun : PlacesBut [] (s.modSlot n fun y => { y with attempts := y.attempts + 1 }) :=
          h.touchActive hn rfl rfl rfl rfl
        exact hbegun.setEngine (.of_state rfl rfl (.inr nofun))
    · exact h
  · exact h

theorem PlacesBut.guardSpace (h : PlacesBut [] s) (l : Line) : PlacesBut [] (s.guardSpace l) := by
  have hheard : PlacesBut [] (s.modLink l fun k => { k with quietTime := 0 }) := (placesBut_setLink ..).2 h
  unfold State.guardSpace
  dsimp only
  split
  · next n hstate hn =>
    have hstopped : PlacesBut [] ((s.modLink l fun k => { k with quietTime := 0 }).modEngine l fun y =>
      { y with leadTimer := none }) := hheard.setEngine (.of_state rfl rfl (.inl rfl))
    split
    · exact hstopped.settle l
    · have hreleased := hstopped.release (l := l) (n := n) (by simp [hn])
      exact (hreleased.joinHead List.not_mem_nil).settle l
  · split
    · exact h
    · exact hheard

theorem PlacesBut.holdEnded (h : PlacesBut [] s) (l : Line) : PlacesBut [] (s.holdEnded l) := by
  unfold State.holdEnded
  split
  · exact h
  · next n hn =>
    have hstopped : PlacesBut [] (s.modEngine l fun y => { y with holdTimer := none }) :=
      h.setEngine (.of_state rfl rfl (.inl rfl))
    have hactive : ((s.modEngine l fun y => { y with holdTimer := none }).engine l).active = some n := by simp [hn]
    dsimp only
    split
    · exact hstopped.finishActive hactive _
    · split
      · exact hstopped.finishActive hactive _
      · exact hstopped.setEngine (.of_state rfl rfl (.inr nofun))

theorem PlacesBut.holdExpired (h : PlacesBut [] s) (l : Line) : PlacesBut [] (s.holdExpired l) := by
  unfold State.holdExpired
  split
  · exact h.holdEnded l
  · exact h

theorem PlacesBut.frameSent (h : PlacesBut [] s) (hn : (s.engine l).active = some n) (p : Phase) :
    PlacesBut [] (s.frameSent l n p) := by
  have hover : PlacesBut [] (s.modLink l Link.frameOver) := (placesBut_setLink ..).2 h
  have hsent : PlacesBut [] (if p = .request then
      (s.modLink l Link.frameOver).modSlot n fun x => { x with requestSent := true } else s.modLink l Link.frameOver) := by
    split
    · exact hover.touchActive hn rfl rfl rfl rfl
    · exact hover
  unfold State.frameSent
  dsimp only
  split
  · refine PlacesBut.holdEnded ?_ l
    exact hsent.setEngine (.of_state rfl rfl (.inr nofun))
  · exact hsent.setEngine (.of_state rfl rfl (.inr nofun))

theorem PlacesBut.characterEnded (h : PlacesBut [] s) (l : Line) (readBack : BitVec 11) :
    PlacesBut [] (s.characterEnded l readBack) := by
  unfold State.characterEnded
  dsimp only
  split
  · next n p data marker _ _ hstate hn hp hsending =>
    have hheard : PlacesBut [] (s.modLink l fun k => k.heardBack readBack) := (placesBut_setLink ..).2 h
    split
    · split
      · rwa [placesBut_beginCharacter]
      · exact hheard.frameSent hn p
    · exact PlacesBut.verdict ((placesBut_setLink ..).2 hheard) l _
  · exact h

/-! ### Waiting, receiving and settling -/

theorem PlacesBut.replyExpired (h : PlacesBut [] s) (l : Line) : PlacesBut [] (s.replyExpired l) := by
  unfold State.replyExpired
  split
  · exact h.verdict l _
  · exact h

theorem PlacesBut.startBit (h : PlacesBut [] s) (l : Line) : PlacesBut [] (s.startBit l) := by
  unfold State.startBit
  dsimp only
  split
  · split
    · exact PlacesBut.setEngine ((placesBut_setLink ..).2 h) (.of_state rfl rfl (.inr nofun))
    · exact PlacesBut.setEngine ((placesBut_setLink ..).2 h) (.of_state rfl rfl (.inl rfl))
    · exact (placesBut_setLink ..).2 h
  · exact h

theorem PlacesBut.tookCharacter (h : PlacesBut [] s) (l : Line) (k : Link) : PlacesBut [] (s.tookCharacter l k) :=
  PlacesBut.setEngine ((placesBut_setLink ..).2 h) (.of_state rfl rfl (.inl rfl))

theorem PlacesBut.takeCharacter (h : PlacesBut [] s) (l : Line) (x : Slot) (p : Phase) (b : Byte) :
    PlacesBut [] (s.takeCharacter l x p b) := by
  unfold State.takeCharacter
  dsimp only
  split
  · exact h.tookCharacter l _
  split
  · exact h.tookCharacter l _
  split
  · exact h.tookCharacter l _
  split
  · split
    · exact PlacesBut.tookCharacter ((placesBut_putChainByte ..).2 h) l _
    · exact h.tookCharacter l _
  split
  · exact h.tookCharacter l _
  · exact PlacesBut.verdict ((placesBut_setLink ..).2 h) l _

theorem PlacesBut.characterDelivered (h : PlacesBut [] s) (l : Line) (samples : BitVec 10) :
    PlacesBut [] (s.characterDelivered l samples) := by
  unfold State.characterDelivered
  dsimp only
  split
  · split
    · split
      · exact PlacesBut.verdict ((placesBut_setLink ..).2 h) l _
      · exact PlacesBut.takeCharacter ((placesBut_setLink ..).2 h) l _ _ _
    · exact (placesBut_setLink ..).2 h
  · exact h

theorem PlacesBut.gapExpired (h : PlacesBut [] s) (l : Line) : PlacesBut [] (s.gapExpired l) := by
  unfold State.gapExpired
  dsimp only
  split
  · exact PlacesBut.verdict ((placesBut_setLink ..).2 h) l _
  · exact h

theorem PlacesBut.settled (h : PlacesBut [] s) (l : Line) : PlacesBut [] (s.settled l) := by
  unfold State.settled
  dsimp only
  split
  · exact h
  · split
    · exact PlacesBut.setEngine ((placesBut_setLink ..).2 h) (Engine.leaveSettle_sameSlots _)
    · exact (placesBut_setLink ..).2 h

theorem PlacesBut.stuckExpired (h : PlacesBut [] s) (l : Line) : PlacesBut [] (s.stuckExpired l) := by
  unfold State.stuckExpired
  dsimp only
  split
  · split
    · exact h.setEngine (.of_state rfl rfl (.inl rfl))
    · exact PlacesBut.setEngine ((placesBut_raiseStuck ..).2 h) (.of_state rfl rfl (.inl rfl))
  · exact h

theorem PlacesBut.reArm (h : PlacesBut [] s) (l : Line) : PlacesBut [] (s.reArm l) := by
  unfold State.reArm
  split
  · exact (placesBut_setLink ..).2 h
  · exact h

/-! ### Cancelling the active slot -/

theorem PlacesBut.engineCancel (h : PlacesBut [] s) (hn : (s.engine l).active = some n) (o : TransactionOutcome) :
    PlacesBut [] (s.engineCancel l n o) := by
  have hstopped : PlacesBut [] (s.modEngine l Engine.stopWaiting) := h.setEngine (Engine.stopWaiting_sameSlots _)
  unfold State.engineCancel
  split
  · have hled : PlacesBut [] (s.modEngine l fun e => { e with leadTimer := none }) :=
      h.setEngine (.of_state rfl rfl (.inl rfl))
    exact hled.finishActive (by simp [hn]) o
  · refine (h.completeActive hn o).setEngine ?_
    dsimp only
    split
    · exact Engine.toOff_sameSlots _
    · exact .of_state rfl rfl (.inl rfl)
  · exact hstopped.finishActive (by simp [Engine.stopWaiting, hn]) o
  · exact hstopped.finishActive (by simp [Engine.stopWaiting, hn]) o
  · exact h

theorem PlacesBut.cancelActive (h : PlacesBut [] s) (l : Line) (o : PendingOutcome) : PlacesBut [] (s.cancelActive l o) := by
  unfold State.cancelActive
  split
  · exact h
  · next n hn =>
    split
    · exact h
    · have hflagged : PlacesBut [] (s.modSlot n fun x => { x with cancelPending := some o }) :=
        h.touchActive hn rfl rfl rfl rfl
      exact hflagged.engineCancel hn _

end

end Sys2Proof.Machine
end

/-! ### What the Data Port and the readout move (R27, R28, R127, R129, R130, R142) -/

section
namespace Sys2Proof.Machine

section
variable {s : State}

/-- The LOADING slot leaves the port's assembly for its queue (R27). -/
theorem PlacesBut.intakeComplete (h : PlacesBut [] s) : PlacesBut [] s.intakeComplete := by
  unfold State.intakeComplete
  split
  · exact (placesBut_modData ..).2 h
  · next n hn =>
    have hposted : PlacesBut [n] (s.post .accepted [byteOf n.val]) := by simpa [hn] using h.post .accepted [byteOf n.val]
    exact (placesBut_modData ..).2 (hposted.joinTail List.not_mem_nil)

/-- The LOADING slot leaves the port's assembly and is FREE (R28). -/
theorem PlacesBut.intakeAbandoned (h : PlacesBut [] s) (code : ResponseCode) : PlacesBut [] (s.intakeAbandoned code) := by
  unfold State.intakeAbandoned
  split
  · next hnone =>
    have hposted : PlacesBut [] (s.post code []) := by simpa [hnone] using h.post code []
    exact (placesBut_modData ..).2 hposted
  · next n hn =>
    have hposted : PlacesBut [n] (s.post code []) := by simpa [hn] using h.post code []
    exact (placesBut_modData ..).2 (hposted.freeSlot List.not_mem_nil)

theorem PlacesBut.moveIn (h : PlacesBut [] s) (b : Byte) (dma tc : Bool) : PlacesBut [] (s.moveIn b dma tc) := by
  have htaken : PlacesBut []
      ((s.putChainByte s.loadingChain s.data.moved b).modData fun d => d.movedByte dma) := by simpa using h
  have hraised := (placesBut_raiseDmaEnd _).2 htaken
  unfold State.moveIn
  dsimp only
  split
  · split
    · exact hraised.intakeComplete
    · exact hraised.intakeAbandoned _
  · split
    · split
      · exact hraised.intakeComplete
      · exact htaken.intakeComplete
    · exact htaken

theorem PlacesBut.dataIn (h : PlacesBut [] s) (b : Byte) (dma tc : Bool) : PlacesBut [] (s.dataIn b dma tc) := by
  unfold State.dataIn
  split
  · exact h.moveIn b dma tc
  · exact (placesBut_setLost _).2 h

theorem PlacesBut.outflowComplete (h : PlacesBut [] s) : PlacesBut [] s.outflowComplete :=
  (placesBut_modData ..).2 h.retireHead

theorem PlacesBut.moveOut (h : PlacesBut [] s) (dma tc : Bool) : PlacesBut [] (s.moveOut dma tc) := by
  have hdelivered : PlacesBut [] (s.modData fun d => d.movedByte dma) := (placesBut_modData ..).2 h
  have hraised := (placesBut_raiseDmaEnd _).2 hdelivered
  unfold State.moveOut
  dsimp only
  split
  · split
    · exact hraised.outflowComplete
    · exact (placesBut_modData ..).2 hraised
  · split
    · split
      · exact hraised.outflowComplete
      · exact hdelivered.outflowComplete
    · exact hdelivered

theorem PlacesBut.dataOut (h : PlacesBut [] s) (dma tc : Bool) : PlacesBut [] (s.dataOut dma tc).2 := by
  unfold State.dataOut
  split
  · exact h.moveOut dma tc
  · exact h

theorem PlacesBut.headerEnd (h : PlacesBut [] s) (r : Record) : PlacesBut [] (s.headerEnd r) := by
  unfold State.headerEnd
  split
  · exact h.retireHead
  · exact h.frame rfl rfl rfl rfl (fun _ => rfl) rfl

theorem PlacesBut.readResult (h : PlacesBut [] s) : PlacesBut [] s.readResult.2 := by
  unfold State.readResult
  split
  · exact h
  · dsimp only
    split
    · dsimp only
      split
      · exact h.headerEnd _
      · exact h.frame rfl rfl rfl rfl (fun _ => rfl) rfl
    · exact h

theorem PlacesBut.discard (h : PlacesBut [] s) : PlacesBut [] s.discard := by
  unfold State.discard
  split
  · exact h
  · exact PlacesBut.retireHead ((placesBut_modData ..).2 h)

/-- Outside PAYLOAD the port holds no slot. -/
theorem PlacesBut.loading_none (h : PlacesBut [] s) (hstate : s.port.state ≠ .payload) : s.port.loading = none := by
  by_contra hsome
  exact hstate (h.orderly.payload hsome)

/-- A port that holds no slot may be rewritten. -/
theorem PlacesBut.setPort (h : PlacesBut [] s) (hidle : s.port.loading = none) {p : CommandPort} (hp : p.loading = none) :
    PlacesBut [] { s with port := p } := by simpa [hidle] using h.unload hp

theorem PlacesBut.postIdle (h : PlacesBut [] s) (hidle : s.port.loading = none) (code : ResponseCode) (info : List Byte) :
    PlacesBut [] (s.post code info) := h.setPort hidle rfl

theorem PlacesBut.abort (h : PlacesBut [] s) : PlacesBut [] s.abort := by
  unfold State.abort
  split
  · next hstate => exact h.postIdle (h.loading_none (by simp [hstate])) _ _
  · exact h.intakeAbandoned _
  · exact h
  · exact h

end

end Sys2Proof.Machine
end

/-! ### What the Poll Scheduler moves (R25, R107, R111) -/

section
namespace Sys2Proof.Machine

section
variable {s : State}

/-- The lowest FREE slot is made a slot of a record, in hand until it is put in its place. -/
theorem PlacesBut.createLowest (h : PlacesBut [] s) {n : SlotNo} (hn : s.lowestFree = some n) (x : Slot) :
    PlacesBut [n] (s.create n x) := h.create List.not_mem_nil (State.lowestFree_isFree hn) x

theorem PlacesBut.startCycle (h : PlacesBut [] s) (l : Line) : PlacesBut [] (s.startCycle l) := by
  unfold State.startCycle
  dsimp only
  split
  · exact (placesBut_setSched ..).2 h
  · split
    · simpa using h
    · simpa using h

theorem PlacesBut.cycleDue (h : PlacesBut [] s) (l : Line) : PlacesBut [] (s.cycleDue l) := by
  unfold State.cycleDue
  split
  · exact h.startCycle l
  · exact h

theorem PlacesBut.createPoll (h : PlacesBut [] s) {n : SlotNo} (hn : s.lowestFree = some n) (l : Line) (e : EntryNo)
    (d : PollDef) : PlacesBut [] (s.createPoll l e d n) := by
  unfold State.createPoll
  dsimp only
  rw [State.modEntry_eq, placesBut_setSched]
  exact PlacesBut.joinTail ((placesBut_putChainByte ..).2 (h.createLowest hn _)) List.not_mem_nil

theorem PlacesBut.claim (h : PlacesBut [] s) (l : Line) : PlacesBut [] (s.claim l) := by
  unfold State.claim
  split
  · next e rest hrun hdue =>
    have hclaimed : PlacesBut [] (s.modSched l fun p => { p with due := rest }) := (placesBut_setSched ..).2 h
    dsimp only
    split
    · exact hclaimed
    · split
      · next n hn =>
        split
        · exact hclaimed.createPoll hn l e _
        · exact (placesBut_setSched ..).2 hclaimed
      · exact (placesBut_setSched ..).2 hclaimed
  · exact h

end

end Sys2Proof.Machine
end

/-! ### What the commands move (sections 8.2 and 8.3) -/

section
namespace Sys2Proof.Machine

@[simp] theorem State.updateStation_port (s : State) (l : Line) (a : StationAddr) (f : Station → Station) :
    (s.updateStation l a f).port = s.port := by rw [State.updateStation_frame]

@[simp] theorem State.finishActive_port (s : State) (l : Line) (n : SlotNo) (o : TransactionOutcome) :
    (s.finishActive l n o).port = s.port := by simp [State.finishActive, State.completeActive, State.settle]

@[simp] theorem State.engineCancel_port (s : State) (l : Line) (n : SlotNo) (o : TransactionOutcome) :
    (s.engineCancel l n o).port = s.port := by
  unfold State.engineCancel
  split <;> simp [State.completeActive]

@[simp] theorem State.cancelActive_port (s : State) (l : Line) (o : PendingOutcome) : (s.cancelActive l o).port = s.port := by
  unfold State.cancelActive
  split
  · rfl
  · split
    · rfl
    · simp

@[simp] theorem State.turnOff_port (s : State) (l : Line) (k : DrainKind) : (s.turnOff l k).port = s.port := by
  unfold State.turnOff
  dsimp only
  split <;> simp [State.abortLine]

@[simp] theorem State.resetActive_port (s : State) (l : Line) : (s.resetActive l).port = s.port := by
  unfold State.resetActive
  split
  · rfl
  · simp [State.completeActive]

@[simp] theorem State.resetLine_port (s : State) (l : Line) : (s.resetLine l).port = s.port := by
  simp [State.resetLine]

@[simp] theorem State.startCycle_port (s : State) (l : Line) : (s.startCycle l).port = s.port := by
  unfold State.startCycle
  dsimp only
  split
  · rfl
  · split <;> rfl

@[simp] theorem State.configure_port (s : State) (l : Line) (c : LineConfig) : (s.configure l c).port = s.port := by
  unfold State.configure
  dsimp only
  split <;> split <;> rfl

theorem State.resetActive_engine (s : State) (l : Line) :
    ((s.resetActive l).engine l).active = none ∧ ((s.resetActive l).engine l).queue = (s.engine l).queue := by
  unfold State.resetActive
  split
  · next hnone => exact ⟨hnone, rfl⟩
  · simp [State.completeActive, Engine.release]

theorem Engine.turnOn_sameSlots (e : Engine) (quiet : Nat) : e.SameSlots (e.turnOn quiet) := by
  obtain ⟨hqueue, hactive, hidle⟩ := Engine.settle_sameSlots { e with mode := .on } quiet
  exact ⟨hqueue, hactive, hidle⟩

section
variable {s : State} (h : PlacesBut [] s) (hidle : s.port.loading = none)
include h

theorem PlacesBut.configure (l : Line) (c : LineConfig) : PlacesBut [] (s.configure l c) := by
  have hset : PlacesBut [] (s.modEngine l fun e => { e with config := c }) := h.setEngine (.of_state rfl rfl (.inl rfl))
  have hlink : PlacesBut [] (if c.divisor = (s.engine l).config.divisor then s.modEngine l fun e => { e with config := c }
      else (s.modEngine l fun e => { e with config := c }).modLink l Link.newDivisor) := by
    split
    · exact hset
    · exact (placesBut_setLink ..).2 hset
  unfold State.configure
  dsimp only
  split
  · exact hlink
  · exact (placesBut_setStationLine ..).2 hlink

theorem PlacesBut.abortLine (l : Line) : PlacesBut [] (s.abortLine l) := by
  have hdrained : PlacesBut [] (s.modEngine l fun e => e.drain .abort) := h.setEngine (Engine.drain_sameSlots _ _)
  exact (hdrained.completeQueue l _).cancelActive l _

theorem PlacesBut.turnOff (l : Line) (k : DrainKind) : PlacesBut [] (s.turnOff l k) := by
  have hhalted : PlacesBut [] (s.modSched l Scheduler.halt) := (placesBut_setSched ..).2 h
  have hoff : PlacesBut [] ((s.modSched l Scheduler.halt).modEngine l Engine.toOff) :=
    hhalted.setEngine (Engine.toOff_sameSlots _)
  unfold State.turnOff
  dsimp only
  split
  · exact hoff
  · exact hoff.completeQueue l _
  · exact hhalted.setEngine (Engine.drain_sameSlots _ _)
  · exact hhalted.abortLine l

theorem PlacesBut.resetActive (l : Line) : PlacesBut [] (s.resetActive l) := by
  unfold State.resetActive
  split
  · exact h
  · next n hn => exact h.completeActive hn _

/-- The blocks of a line are reset once its engine holds neither queue nor slot. -/
theorem PlacesBut.clearLine {l : Line} (hactive : (s.engine l).active = none) (hqueue : (s.engine l).queue = [])
    (u : EventUnit) :
    PlacesBut [] { ((s.modEngine l Engine.cleared).setStationLine l StationLine.reset).modSched l Scheduler.lineReset with
      events := u } := by
  have hcleared : PlacesBut [] (s.modEngine l Engine.cleared) :=
    h.setEngine ⟨hqueue.symm, hactive.symm, fun _ => .inr rfl⟩
  exact hcleared.frame rfl rfl rfl rfl (fun _ => rfl) rfl

/-- LINE_RESET completes the slots of the line before its blocks are reset. -/
theorem PlacesBut.resetLine (l : Line) : PlacesBut [] (s.resetLine l) := by
  have hcut : PlacesBut [] (s.modLink l Link.cut) := (placesBut_setLink ..).2 h
  have hended := (hcut.completeQueue l .lineDown).resetActive l
  obtain ⟨hactive, hqueue⟩ := State.resetActive_engine ((s.modLink l Link.cut).completeQueue l .lineDown) l
  rw [State.completeQueue_engine, State.setEngine_engine_same] at hqueue
  exact hended.clearLine hactive hqueue _

include hidle

/-- A command that names a line, refused on an ABSENT one. -/
theorem PlacesBut.ifPresent (l : Line) {k : State} (hk : PlacesBut [] k) : PlacesBut [] (s.ifPresent l k) := by
  unfold State.ifPresent
  split
  · exact h.postIdle hidle _ _
  · exact hk

theorem PlacesBut.submitGranted {n : SlotNo} (hn : s.lowestFree = some n) (p : SubmitParams) :
    PlacesBut [] (s.submitGranted p n) := by
  have hmade := h.createLowest hn p.slot
  unfold State.submitGranted
  dsimp only
  split
  · exact (hmade.joinTail List.not_mem_nil).postIdle hidle _ _
  · exact (placesBut_modData ..).2 (hmade.load List.not_mem_nil (by simp [SubmitParams.slot]) hidle rfl rfl)

theorem PlacesBut.takeSubmit (p : SubmitParams) : PlacesBut [] (s.takeSubmit p) := by
  refine h.ifPresent hidle _ ?_
  split
  · exact h.postIdle hidle _ _
  · split
    · exact h.postIdle hidle _ _
    · next n hn =>
      split
      · exact h.postIdle hidle _ _
      · exact h.submitGranted hidle hn p

theorem PlacesBut.takeCancel (n : SlotNo) : PlacesBut [] (s.takeCancel n) := by
  unfold State.takeCancel
  dsimp only
  split
  · next hqueued =>
    have hmem : n ∈ (s.engine (s.slot n).line).queue := ((h.inPlace n List.not_mem_nil).queued _).2 ⟨hqueued, rfl⟩
    have hout : PlacesBut [n] (s.modEngine (s.slot n).line fun e => { e with queue := e.queue.erase n }) :=
      h.dequeue (out := [n]) (List.perm_cons_erase hmem) List.erase_sublist rfl rfl
    exact (hout.complete List.not_mem_nil _).postIdle (by simpa using hidle) _ _
  · split
    · exact (h.cancelActive _ _).postIdle (by simpa using hidle) _ _
    · exact h.postIdle hidle _ _
  · exact h.postIdle hidle _ _

theorem PlacesBut.takePurge (l : Line) : PlacesBut [] (s.takePurge l) :=
  h.ifPresent hidle l ((h.completeQueue l _).postIdle (by simpa using hidle) _ _)

theorem PlacesBut.takeLineSet (l : Line) (c : LineConfig) : PlacesBut [] (s.takeLineSet l c) := by
  refine h.ifPresent hidle l ?_
  split
  · exact (h.configure l c).postIdle (by simpa using hidle) _ _
  · exact h.postIdle hidle _ _

theorem PlacesBut.takeLineOn (l : Line) : PlacesBut [] (s.takeLineOn l) := by
  refine h.ifPresent hidle l ?_
  split
  · have hon : PlacesBut [] (s.modEngine l fun e => e.turnOn (s.link l).quietTime) :=
      h.setEngine (Engine.turnOn_sameSlots _ _)
    exact hon.postIdle hidle _ _
  · exact h.postIdle hidle _ _

theorem PlacesBut.takeLineOff (l : Line) (k : DrainKind) : PlacesBut [] (s.takeLineOff l k) := by
  unfold State.takeLineOff
  split
  · exact h.postIdle hidle _ _
  · exact h.postIdle hidle _ _
  · exact (h.turnOff l k).postIdle (by simpa using hidle) _ _
  · split
    · exact (h.abortLine l).postIdle (by simpa [State.abortLine] using hidle) _ _
    · exact h.postIdle hidle _ _

theorem PlacesBut.takeLineReset (l : Line) : PlacesBut [] (s.takeLineReset l) :=
  h.ifPresent hidle l ((h.resetLine l).postIdle (by simpa using hidle) _ _)

theorem PlacesBut.takePollSet (l : Line) (e : EntryNo) (d : PollDef) : PlacesBut [] (s.takePollSet l e d) := by
  refine h.ifPresent hidle l ?_
  split
  · exact h.postIdle hidle _ _
  · exact PlacesBut.postIdle ((placesBut_setSched ..).2 h) hidle _ _

theorem PlacesBut.takePollRun (l : Line) (period : Nat) : PlacesBut [] (s.takePollRun l period) := by
  refine h.ifPresent hidle l ?_
  split
  · exact PlacesBut.postIdle (((placesBut_setSched ..).2 h).startCycle l) (by simpa using hidle) _ _
  · exact h.postIdle hidle _ _

theorem PlacesBut.takePollHalt (l : Line) : PlacesBut [] (s.takePollHalt l) :=
  h.ifPresent hidle l (PlacesBut.postIdle ((placesBut_setSched ..).2 h) hidle _ _)

theorem PlacesBut.takeStationSet (l : Line) (a : StationAddr) (act : StationAction) :
    PlacesBut [] (s.takeStationSet l a act) :=
  h.ifPresent hidle l (PlacesBut.postIdle ((placesBut_updateStation ..).2 h) (by simpa using hidle) _ _)

theorem PlacesBut.takeQueryPool : PlacesBut [] s.takeQueryPool := by
  have hcounted : PlacesBut [] { s with pool := { s.pool with leastFree := s.freeCount } } :=
    h.frame rfl rfl rfl rfl (fun _ => rfl) rfl
  exact hcounted.postIdle hidle _ _

theorem PlacesBut.takeQueueSet (high low trigger reserve : Nat) : PlacesBut [] (s.takeQueueSet high low trigger reserve) := by
  have hset : PlacesBut [] { s with
      queue := CompletionQueue.evaluated { s.queue with highMark := high, lowMark := low, trigger := trigger },
      pool := { s.pool with hostReserve := reserve } } := h.frame rfl rfl rfl rfl (fun _ => rfl) rfl
  exact hset.postIdle hidle _ _

theorem PlacesBut.takeRequest (r : Request) : PlacesBut [] (s.takeRequest r) := by
  cases r with
  | submit p => exact h.takeSubmit hidle p
  | cancel n => exact h.takeCancel hidle n
  | purge l => exact h.takePurge hidle l
  | lineSet l c => exact h.takeLineSet hidle l c
  | lineOn l => exact h.takeLineOn hidle l
  | lineOff l k => exact h.takeLineOff hidle l k
  | lineReset l => exact h.takeLineReset hidle l
  | pollSet l e d => exact h.takePollSet hidle l e d
  | pollRun l p => exact h.takePollRun hidle l p
  | pollHalt l => exact h.takePollHalt hidle l
  | stationSet l a act => exact h.takeStationSet hidle l a act
  | queryPool => exact h.takeQueryPool hidle
  | queueSet high low trigger reserve => exact h.takeQueueSet hidle high low trigger reserve
  | queryLine l => exact PlacesBut.postIdle ((placesBut_setSched ..).2 h) hidle _ _
  | queryChanges l => exact PlacesBut.postIdle ((placesBut_setStationLine ..).2 h) hidle _ _
  | querySlot | queryStation | queryEntry => exact h.postIdle hidle _ _

end

/-- A write to COMMAND: a command is taken from COLLECT alone, where the port holds no slot. -/
theorem PlacesBut.writeCommand {s : State} (h : PlacesBut [] s) (b : Byte) : PlacesBut [] (s.writeCommand b) := by
  unfold State.writeCommand
  split
  · next hstate =>
    have hidle := h.loading_none (by simp [hstate])
    unfold State.takeOpcode
    split
    · exact h.setPort hidle hidle
    · exact h.postIdle hidle _ _
  · next hstate =>
    have hidle := h.loading_none (by simp [hstate])
    unfold State.takeParameter
    split
    · exact h
    · have hjoined : PlacesBut [] { s with port := { s.port with params := s.port.params ++ [b] } } := h.setPort hidle hidle
      dsimp only
      split
      · exact hjoined
      · unfold State.takeCommand
        split
        · exact hjoined.postIdle hidle _ _
        · exact hjoined.takeRequest hidle _
  · exact (placesBut_setLost _).2 h
  · exact (placesBut_setLost _).2 h

end Sys2Proof.Machine
end

/-! ### What every step moves (R20, R22, R46, R185) -/

section
namespace Sys2Proof.Machine

/-- A part with every slot cleared, every list empty and all blocks free has everything in its place. -/
theorem placesBut_of_empty {s : State} (hslot : ∀ n, s.slot n = Slot.cleared) (hqueue : ∀ l, (s.engine l).queue = [])
    (hactive : ∀ l, (s.engine l).active = none) (hrecords : s.queue.records = []) (hloading : s.port.loading = none)
    (hfree : s.pool.free = List.finRange 128) : PlacesBut [] s := by
  refine ⟨fun n _ => ⟨?_, ?_, ?_, ?_, fun _ => hslot n⟩, by simp, ?_, ?_, fun l _ => hactive l, ?_,
    fun hsome => absurd hloading hsome, ?_⟩
  · simp [hqueue, hslot, Slot.cleared]
  · simp [hactive, hslot, Slot.cleared]
  · simp [hrecords, hslot, Slot.cleared]
  · simp [hloading, hslot, Slot.cleared]
  · simp [hqueue]
  · simp [hqueue]
  · simp [hrecords]
  · rw [blocksPlaces_iff, hfree]
    rw [List.flatMap_eq_nil_iff.2 fun n _ => by rw [hslot]; rfl, List.append_nil]

theorem placesBut_resetWith (straps : BitVec 4) : PlacesBut [] (State.resetWith straps) := by
  apply placesBut_of_empty <;> simp [State.slot, State.engine, State.resetWith, Engine.reset, CompletionQueue.reset,
    CommandPort.reset, Pool.reset]

theorem placesBut_softReset (s : State) : PlacesBut [] s.softReset := by
  apply placesBut_of_empty <;> simp [State.slot, State.engine, State.softReset, Engine.cleared, Engine.reset,
    CommandPort.reset, Pool.reset]

section
variable {s t : State} (h : PlacesBut [] s)
include h

theorem PlacesBut.writeControl (b : Byte) : PlacesBut [] (s.writeControl b) := by
  have hreset : PlacesBut [] (if b.getLsbD 0 then s.softReset else s) := by
    split
    · exact placesBut_softReset s
    · exact h
  have habort : PlacesBut [] (if b.getLsbD 1 then (if b.getLsbD 0 then s.softReset else s).abort
      else if b.getLsbD 0 then s.softReset else s) := by
    split
    · exact hreset.abort
    · exact hreset
  unfold State.writeControl
  dsimp only
  refine PlacesBut.frame (s := if b.getLsbD 2 then _ else _) ?_ rfl rfl rfl rfl (fun _ => rfl) rfl
  split
  · exact habort.discard
  · exact habort

theorem PlacesBut.writeAt (offset : Fin 8) (b : Byte) : PlacesBut [] (s.writeAt offset b) := by
  unfold State.writeAt
  split
  · exact h
  · split
    · exact h.writeCommand b
    · exact h.writeControl b
    · exact h.dataIn b _ _
    · exact h.frame rfl rfl rfl rfl (fun _ => rfl) rfl
    · exact h

theorem PlacesBut.readResponse : PlacesBut [] s.readResponse.2 := by
  unfold State.readResponse
  split
  · next hstate _ =>
    have hidle := h.loading_none (by simp [hstate])
    refine h.setPort hidle ?_
    unfold CommandPort.delivered
    dsimp only
    split
    · exact hidle
    · exact hidle
  · exact h

theorem PlacesBut.readCause : PlacesBut [] s.readCause.2 := by
  unfold State.readCause
  split
  · exact h
  · exact h.frame rfl rfl rfl rfl (fun _ => rfl) rfl

/-- A happening keeps the places when its effect does. -/
theorem PlacesBut.of_happening {f : State → State} (ht : happening f s = .next t)
    (hf : PlacesBut [] (f s)) :
    PlacesBut [] t := by
  cases hs : s.inReset with
  | true =>
    rw [happening_of_inReset hs] at ht
    cases ht
    exact h
  | false =>
    rw [happening_of_running hs] at ht
    cases ht
    exact (placesBut_drive _).2 hf

theorem PlacesBut.of_readHappening {f : State → Byte × State} (ht : readHappening f s = .next t)
    (hf : PlacesBut [] (f s).2) : PlacesBut [] t := by
  cases hs : s.inReset with
  | true =>
    rw [readHappening_of_inReset hs] at ht
    cases ht
    exact h.frame rfl rfl rfl rfl (fun _ => rfl) rfl
  | false =>
    rw [readHappening_of_running hs] at ht
    cases ht
    exact hf.frame rfl rfl rfl rfl (fun _ => rfl) rfl

/-- Every command leaves every slot and every block in its place. -/
theorem PlacesBut.of_exec {c : Instr} (ht : exec c s = .next t) : PlacesBut [] t := by
  cases c <;> dsimp only [exec] at ht
  case hardwareReset straps =>
    cases ht
    exact (placesBut_resetWith straps).frame rfl rfl rfl rfl (fun _ => rfl) rfl
  case resetInputActive =>
    cases ht
    exact h.frame rfl rfl rfl rfl (fun _ => rfl) rfl
  case softReset => exact h.of_happening ht (placesBut_softReset s)
  case abortCmd => exact h.of_happening ht h.abort
  case discardHead => exact h.of_happening ht h.discard
  case busEnable | resultDma | eventMaskWrite | tick =>
    exact h.of_happening ht (h.frame rfl rfl rfl rfl (fun _ => rfl) rfl)
  case responseRead => exact h.of_readHappening ht h.readResponse
  case resultRead => exact h.of_readHappening ht h.readResult
  case dataWrite b => exact h.of_happening ht (h.dataIn b _ _)
  case dataRead => exact h.of_readHappening ht (h.dataOut _ _)
  case dmaWriteAck b tc => exact h.of_happening ht (h.dataIn b _ tc)
  case dmaReadAck tc => exact h.of_readHappening ht (h.dataOut _ tc)
  case causeRead => exact h.of_readHappening ht h.readCause
  case tickLowRead => exact h.of_readHappening ht (h.frame rfl rfl rfl rfl (fun _ => rfl) rfl)
  case ignoredWrite offset b =>
    unfold execIgnoredWrite at ht
    split at ht
    · cases ht
      exact h
    · exact h.of_happening ht (h.writeAt offset b)
  case cycleStart l => exact h.of_happening ht (h.cycleDue l)
  case pollClaim l => exact h.of_happening ht (h.claim l)
  case take l => exact h.of_happening ht (h.takeHead l)
  case leadTimerExpiry l => exact h.of_happening ht (h.leadExpired l)
  case guardSpaceHeard l => exact h.of_happening ht (h.guardSpace l)
  case characterSent l readBack => exact h.of_happening ht (h.characterEnded l readBack)
  case holdTimerExpiry l => exact h.of_happening ht (h.holdExpired l)
  case replyTimeout l => exact h.of_happening ht (h.replyExpired l)
  case startBitTaken l => exact h.of_happening ht (h.startBit l)
  case characterReceived l samples => exact h.of_happening ht (h.characterDelivered l samples)
  case gapLimitExpiry l => exact h.of_happening ht (h.gapExpired l)
  case settleQuiet l => exact h.of_happening ht (h.settled l)
  case stuckTimerExpiry l => exact h.of_happening ht (h.stuckExpired l)
  case receiverReArm l => exact h.of_happening ht (h.reArm l)
  case opcodeByte | parameterByte | commandWriteDropped | submit | cancel | purge | lineSet | lineOn | lineOff | lineReset |
      pollSet | pollRun | pollHalt | stationSet | queryPool | querySlot | queryLine | queryStation | queryChanges |
      queryEntry | queueSet => exact h.of_happening ht (h.writeCommand _)

end

/-- Settles O53: with no slot in hand before a happening there is none after it, whatever the happening; the step itself only
takes the happening from those that wait. -/
theorem slotsAndBlocksKeepTheirPlaces : Obligations.SlotsAndBlocksKeepTheirPlaces := by
  intro s t hs ht
  rw [places_iff] at hs ⊢
  unfold step at ht
  split at ht
  · cases ht
    exact hs
  · next c rest _ =>
    have hrest : PlacesBut [] { s with pending := rest } := hs.frame rfl rfl rfl rfl (fun _ => rfl) rfl
    exact hrest.of_exec ht

end Sys2Proof.Machine
end

/-! # The reset state, retirement, failed attempts and completion of HOST slots -/

section
namespace Sys2Proof.Machine

/-! ### The reset state (R20, R22, R46, R57, R123, R181) -/

@[simp] theorem State.resetWith_engine (straps : BitVec 4) (l : Line) :
    (State.resetWith straps).engine l = Engine.reset (straps.getLsb l) := Table.look_make ..

theorem enginesFit_resetWith (straps : BitVec 4) : EnginesFit (State.resetWith straps) := by
  intro l
  rw [State.resetWith_engine]
  cases straps.getLsb l <;> decide

theorem strapsRule_resetWith (straps : BitVec 4) : StrapsRule (State.resetWith straps) := by
  intro l
  rw [State.resetWith_engine]
  change _ ↔ straps.getLsb l = false
  cases straps.getLsb l <;> decide

theorem schedulersFit_resetWith (straps : BitVec 4) : SchedulersFit (State.resetWith straps) := by
  intro l
  simp [State.sched, State.resetWith, Scheduler.reset]

theorem valuesInRange_resetWith (straps : BitVec 4) : ValuesInRange (State.resetWith straps) := by
  refine ⟨fun l => ?_, fun l i => ?_, fun l => ?_, fun l => ?_, ?_, ?_⟩
  · rw [State.resetWith_engine]
    change ConfigInRange LineConfig.default
    decide
  · simp [State.stationLine, State.resetWith, StationLine.reset, Station.reset]
  · simp [State.stationLine, State.resetWith, StationLine.reset]
  · simp [State.sched, State.resetWith, Scheduler.reset]
  · simp [State.resetWith, CompletionQueue.reset]
  · simp [State.resetWith, Pool.reset]

theorem outputsFollow_resetWith (straps : BitVec 4) : OutputsFollow (State.resetWith straps) := by
  have h := outputsFollow_drive ({ State.resetWith straps with pending := [] }.releaseReset straps)
  rw [State.releaseReset_drive] at h
  exact h

/-- Settles O6: each part holds of the release of reset with any strap levels. -/
theorem resetStateIsConsistent : Obligations.ResetStateIsConsistent :=
  ⟨Memory.wf_reset, (places_iff _).2 (placesBut_resetWith _), enginesFit_resetWith _, strapsRule_resetWith _,
    schedulersFit_resetWith _, valuesInRange_resetWith _, outputsFollow_resetWith _⟩

/-! ### Failed attempts (R32, R34) -/

/-- Last failure is no part of a slot's place, so the queue takes the slot where it took it before. -/
theorem State.rankOf_failed (s : State) (n : SlotNo) (f : Failure) :
    (s.setSlot n { s.slot n with lastFailure := some f }).rankOf = s.rankOf :=
  funext (s.rankOf_setSlot rfl)

theorem State.setSlot_setSlot (s : State) (n : SlotNo) (x y : Slot) : (s.setSlot n x).setSlot n y = s.setSlot n y := by
  simp [State.setSlot]

/-- With attempts left a slot rejoins the queue of its line: behind its class after BUSY, at its head otherwise. -/
theorem State.retry_of_left {s : State} {n : SlotNo} (f : Failure) (h : (s.slot n).attempts < (s.slot n).retryLimit + 1) :
    s.retry n f =
      (s.setSlot n { s.slot n with lastFailure := some f, state := .queued }).setEngine (s.slot n).line
        { s.engine (s.slot n).line with
          queue := if f = .busy then s.atTailOfClass (s.engine (s.slot n).line).queue n
                   else s.atHeadOfClass (s.engine (s.slot n).line).queue n } := by
  unfold State.retry
  rw [if_pos h]
  split
  · next hbusy =>
    rw [State.joinTail_eq]
    simp [State.atTailOfClass, State.rankOf_failed, State.setSlot_setSlot]
  · next hother =>
    rw [State.joinHead_eq]
    simp [State.atHeadOfClass, State.rankOf_failed, State.setSlot_setSlot]

theorem State.retry_of_exhausted {s : State} {n : SlotNo} (f : Failure)
    (h : (s.slot n).retryLimit + 1 ≤ (s.slot n).attempts) :
    s.retry n f = (s.setSlot n { s.slot n with lastFailure := some f }).complete n f.outcome := by
  unfold State.retry
  rw [if_neg (Nat.not_lt.2 h), State.modSlot_eq]

/-- Settles O47: the two cases of a failed attempt, the first by the place that the failure gives in the queue. -/
theorem failedAttemptIsRetriedOrEnds : Obligations.FailedAttemptIsRetriedOrEnds := by
  intro s n f
  refine ⟨fun hleft => ?_, fun hexhausted => ?_⟩
  · rw [State.retry_of_left f hleft]
    by_cases hbusy : f = .busy
    · simp only [hbusy, if_true]
      rfl
    · simp only [hbusy, if_false]
      rfl
  · rw [State.retry_of_exhausted f hexhausted]
    cases f <;> rfl

/-! ### The retirement of the head record (R43, R49, R20, R104, R132) -/

/-- The scheduler of a line after one of its entries has forgotten a slot. -/
def Scheduler.forget (p : Scheduler) (e : EntryNo) (n : SlotNo) : Scheduler :=
  { p with entries := p.entries.put e ((p.entries.look e).forget n) }

/-- Everything the retirement of a head record does. -/
theorem State.retireHead_of_cons {s : State} {r : Record} {rest : List Record} (h : s.queue.records = r :: rest) :
    s.retireHead =
      { s with slots := s.slots.put r.slot Slot.cleared,
               pool := { s.pool with
                 free := s.pool.free ++ (s.slot r.slot).requestChain ++ (s.slot r.slot).replyChain },
               queue := CompletionQueue.evaluated { s.queue with records := rest, headerPos := 0 },
               scheds := if (s.slot r.slot).origin = .poll then
                   s.scheds.put (s.slot r.slot).line
                     ((s.sched (s.slot r.slot).line).forget (s.slot r.slot).entryNo r.slot)
                 else s.scheds } := by
  have hdrop : s.dropRecord =
      { s with queue := CompletionQueue.evaluated { s.queue with records := rest, headerPos := 0 } } := by
    simp [State.dropRecord, h]
  unfold State.retireHead
  rw [h]
  dsimp only
  rw [hdrop]
  split <;> rfl

theorem PollEntry.forget_eq (e : PollEntry) (n : SlotNo) :
    e.forget n = if e.live = some n then { e with live := none } else e := rfl

theorem Slot.eq_entryNo_iff (x : Slot) (e : EntryNo) : e = x.entryNo ↔ e.val = x.tag.toNat % 16 := by
  rw [Fin.ext_iff]
  rfl

/-- The entries of a part in which one entry of one line has forgotten a slot. -/
theorem entry_forget (s : State) (l k : Line) (e i : EntryNo) (n : SlotNo) :
    ((s.scheds.put l ((s.sched l).forget e n)).look k).entries.look i =
      if k = l ∧ i = e then (s.entry k i).forget n else s.entry k i := by
  unfold State.entry State.sched Scheduler.forget
  rw [Table.look_put]
  by_cases hline : l = k
  · subst hline
    by_cases hentry : e = i
    · simp [hentry]
    · simp [Table.look_put_ne _ _ hentry, Ne.symm hentry]
  · simp [hline, Ne.symm hline]

/-- Settles O25: read off the whole effect of a retirement, block by block. -/
theorem retirementFreesTheHeadSlot : Obligations.RetirementFreesTheHeadSlot := by
  intro s r rest hrecords
  dsimp only
  rw [State.retireHead_of_cons hrecords]
  refine ⟨Table.look_put_same .., fun m hm => Table.look_put_ne _ _ hm.symm, rfl, rfl, fun l e => ?_, fun l => ?_, rfl⟩
  · unfold State.entry State.sched
    by_cases horigin : (s.slot r.slot).origin = .poll
    · dsimp only
      rw [if_pos horigin]
      refine (entry_forget ..).trans ?_
      simp only [horigin, Slot.eq_entryNo_iff, PollEntry.forget_eq, true_and, ← and_assoc, ite_and]
      rfl
    · simp [horigin]
  · unfold State.sched
    by_cases horigin : (s.slot r.slot).origin = .poll
    · dsimp only
      rw [if_pos horigin, Table.look_put]
      split
      · next hline => rw [← hline]; rfl
      · rfl
    · simp [horigin]

/-! ### The completion of a HOST slot (R35, R36, R91, R123, R124, R132, R88) -/

theorem stationIndex_eq_some_iff (a : StationAddr) (i : Fin 31) : stationIndex a = some i ↔ a.val = i.val + 1 := by
  unfold stationIndex
  split
  · next hzero => simp [hzero]
  · next hpos =>
    rw [Option.some.injEq, Fin.ext_iff]
    dsimp only
    omega

theorem stationIndex_eq_none_iff (a : StationAddr) : stationIndex a = none ↔ a = 0 := by
  unfold stationIndex
  rw [Fin.ext_iff]
  split
  · next hzero => simp [hzero]
  · next hpos => simpa using hpos

/-- What every station record reads as after an update (R87: station 0 has none). -/
theorem State.updateStation_station (s : State) (l k : Line) (a b : StationAddr) (f : Station → Station) :
    (s.updateStation l a f).station k b =
      if k = l ∧ b = a ∧ a ≠ 0 then f (s.station l a) else s.station k b := by
  unfold State.station
  cases hb : stationIndex b with
  | none =>
    rw [if_neg]
    rintro ⟨-, rfl, hne⟩
    exact hne ((stationIndex_eq_none_iff b).1 hb)
  | some i =>
    have hsame : stationIndex a = some i ↔ b = a ∧ a ≠ 0 := by
      rw [stationIndex_eq_some_iff] at hb ⊢
      rw [Ne, Fin.ext_iff, Fin.ext_iff, Fin.val_zero]
      omega
    dsimp only
    rw [State.updateStation_look]
    simp only [hsame, eq_comm (a := l)]
    rfl

/-- A station made UNSYNC joins no change set: its derived state stays (R88). -/
theorem State.updateStation_unsynced_changes (s : State) (l k : Line) (a : StationAddr) :
    ((s.updateStation l a Station.unsynced).stationLine k).changes = (s.stationLine k).changes := by
  unfold State.updateStation
  split
  · rfl
  · dsimp only
    rw [State.setStationLine_stationLine]
    split
    · next hline => simp [crossesOffline, hline]
    · rfl

/-- The desynchronization rule makes a slot's station UNSYNC (R36). -/
abbrev Desyncs (x : Slot) (o : TransactionOutcome) : Prop := x.requestSent = true ∧ o ≠ .ok ∧ o ≠ .sent

theorem desyncs_iff (x : Slot) (o : TransactionOutcome) : (x.requestSent && !o.inStep) = true ↔ Desyncs x o := by
  simp [TransactionOutcome.inStep]

/-- What every station record reads as after the desynchronization rule. -/
theorem State.desync_station (s : State) (n : SlotNo) (o : TransactionOutcome) (l : Line) (a : StationAddr) :
    (s.desync n o).station l a =
      if l = (s.slot n).line ∧ a = (s.slot n).station ∧ a ≠ 0 ∧ Desyncs (s.slot n) o then
        { s.station l a with sync := .unsync }
      else s.station l a := by
  unfold State.desync
  by_cases h : Desyncs (s.slot n) o
  · rw [if_pos ((desyncs_iff ..).2 h), State.updateStation_station]
    by_cases hat : l = (s.slot n).line ∧ a = (s.slot n).station ∧ a ≠ 0
    · obtain ⟨rfl, rfl, hne⟩ := hat
      rw [if_pos ⟨rfl, rfl, hne⟩, if_pos ⟨rfl, rfl, hne, h⟩]
      rfl
    · rw [if_neg fun ⟨hl, ha, hne⟩ => hat ⟨hl, ha, ha ▸ hne⟩,
        if_neg fun ⟨hl, ha, hne, _⟩ => hat ⟨hl, ha, hne⟩]
  · rw [if_neg (mt (desyncs_iff ..).1 h), if_neg fun ⟨_, _, _, hd⟩ => h hd]

theorem State.desync_changes (s : State) (n : SlotNo) (o : TransactionOutcome) (l : Line) :
    ((s.desync n o).stationLine l).changes = (s.stationLine l).changes := by
  unfold State.desync
  split
  · exact State.updateStation_unsynced_changes ..
  · rfl

/-- The derived state does not read sync, so the desynchronization rule leaves it (R88). -/
theorem State.desync_derivedOf (s : State) (n : SlotNo) (o : TransactionOutcome) (l : Line) (a : StationAddr) :
    (s.desync n o).derivedOf l a = s.derivedOf l a := by
  have hengine : (s.desync n o).threshold l = s.threshold l := by rw [State.desync_frame]; rfl
  unfold State.derivedOf
  rw [hengine, State.desync_station]
  split
  · split <;> rfl
  · rfl

/-- The rule reads the slot's line, station and request sent alone, and writes no slot. -/
theorem State.desync_setSlot (s : State) {n : SlotNo} {y : Slot} (o : TransactionOutcome) (hline : y.line = (s.slot n).line)
    (hstation : y.station = (s.slot n).station) (hsent : y.requestSent = (s.slot n).requestSent) :
    (s.setSlot n y).desync n o = (s.desync n o).setSlot n y := by
  unfold State.desync
  rw [State.setSlot_slot_same, hline, hstation, hsent]
  split
  · unfold State.updateStation
    split <;> rfl
  · rfl

/-- A slot handed on after the desynchronization rule: its record carries the derived state of before the rule. -/
theorem State.handToQueue_desync (s : State) {n : SlotNo} {y : Slot} (o : TransactionOutcome) (kind : RecordKind)
    (hline : y.line = (s.slot n).line) (hstation : y.station = (s.slot n).station) :
    ((s.desync n o).setSlot n y).handToQueue n kind =
      { s with slots := s.slots.put n { y with state := .done }, stations := (s.desync n o).stations,
               queue := appended s.queue
                 { slot := n, kind := kind, derived := s.derivedOf (s.slot n).line (s.slot n).station } } := by
  have hderived : ((s.desync n o).setSlot n y).derivedOf (s.slot n).line (s.slot n).station =
      s.derivedOf (s.slot n).line (s.slot n).station := s.desync_derivedOf ..
  unfold State.handToQueue
  rw [State.modSlot_eq, State.setSlot_slot_same, State.setSlot_setSlot, hline, hstation, hderived, State.desync_frame]
  rfl

/-- A slot's record once its outcome and done time are set (R35, step 1). -/
def Slot.ended (x : Slot) (o : TransactionOutcome) (now : Word16) : Slot := { x with outcome := some o, doneTime := now }

/-- Everything the completion of a HOST slot does. -/
theorem State.complete_of_host {s : State} {n : SlotNo} (o : TransactionOutcome) (h : (s.slot n).origin = .host) :
    s.complete n o =
      { s with slots := s.slots.put n { s.slot n with state := .done, outcome := some o, doneTime := s.tick },
               stations := (s.desync n o).stations,
               queue := appended s.queue (hostRecord s n) } := by
  have hhost : (((s.desync n o).setSlot n ((s.slot n).ended o s.tick)).slot n).origin = .host := by
    rw [State.setSlot_slot_same]
    exact h
  calc
    s.complete n o = ((s.desync n o).setSlot n ((s.slot n).ended o s.tick)).handOn n o :=
      congrArg (State.handOn · n o) (s.desync_setSlot o rfl rfl rfl)
    _ = ((s.desync n o).setSlot n ((s.slot n).ended o s.tick)).handToQueue n .transaction := by rw [State.handOn, hhost]
    _ = _ := s.handToQueue_desync o .transaction rfl rfl

/-- Settles O49: read off the whole effect of the completion, and of the desynchronization rule on the stations. -/
theorem hostSlotCompletes : Obligations.HostSlotCompletes := by
  intro s n o horigin
  dsimp only
  rw [State.complete_of_host o horigin]
  exact ⟨rfl, rfl, fun l a => State.desync_station .., fun l => State.desync_changes .., rfl⟩

end Sys2Proof.Machine
end

/-! # What every happening keeps: the payload memory, the straps rule, the schedulers and the ranges

SUPPORT. One relation between the state before a happening and the state it has come to says both that the payload memory is
as it was, unless the happening is one of its writers (section 3.4), and that every value still stands in its range. One
lemma for each operation of the model carries it on; the commands follow. -/

/-! ### Line by line: straps, schedulers and ranges -/

section
namespace Sys2Proof.Machine

/-- The Station Table's part for one line holds failure counts and a change map that R87 and R96 allow. -/
structure StationLine.InRange (t : StationLine) : Prop where
  counts : ∀ i : Fin 31, (t.records.look i).failureCount ≤ 15
  changes : t.changes.getLsbD 0 = false

/-- The numbers of a Poll Scheduler stand in the ranges of section 6.2. -/
structure Scheduler.InRange (p : Scheduler) : Prop where
  period : 1 ≤ p.period ∧ p.period ≤ 65535
  cycleTimer : p.cycleTimer ≤ 65535
  deferrals : p.deferrals ≤ 255

/-- One line keeps the strap rule, the scheduler rule and its ranges. -/
structure LineFits (strap : Bool) (e : Engine) (t : StationLine) (p : Scheduler) : Prop where
  absent : e.mode = .absent ↔ strap = false
  on : p.run = .running → e.mode = .on
  due : p.run = .stopped → p.due = []
  config : ConfigInRange e.config
  stations : t.InRange
  sched : p.InRange

/-- The watermarks and the trigger stand in their ranges (R134). -/
abbrev MarksInRange (q : CompletionQueue) : Prop :=
  1 ≤ q.highMark ∧ q.highMark ≤ 16 ∧ q.lowMark < q.highMark ∧ 1 ≤ q.trigger ∧ q.trigger ≤ 16

/-- Every line fits, and so do the values of QUEUE_SET. -/
structure StateFits (s : State) : Prop where
  line : ∀ l : Line, LineFits (s.straps.getLsb l) (s.engine l) (s.stationLine l) (s.sched l)
  marks : MarksInRange s.queue
  reserve : s.pool.hostReserve ≤ 64

/-- These are the predicates of the statements. -/
theorem stateFits_iff (s : State) : StateFits s ↔ StrapsRule s ∧ SchedulersFit s ∧ ValuesInRange s := by
  constructor
  · rintro ⟨hline, hmarks, hreserve⟩
    exact ⟨fun l => (hline l).absent, fun l => ⟨(hline l).on, (hline l).due⟩, fun l => (hline l).config,
      fun l => (hline l).stations.counts, fun l => (hline l).stations.changes,
      fun l => ⟨(hline l).sched.period.1, (hline l).sched.period.2, (hline l).sched.cycleTimer, (hline l).sched.deferrals⟩,
      hmarks, hreserve⟩
  · rintro ⟨hstraps, hscheds, hconfig, hcounts, hchanges, hranges, hmarks, hreserve⟩
    refine ⟨fun l => ⟨hstraps l, (hscheds l).1, (hscheds l).2, hconfig l, ⟨hcounts l, hchanges l⟩, ?_⟩, hmarks, hreserve⟩
    obtain ⟨hlow, hhigh, htimer, hdeferrals⟩ := hranges l
    exact ⟨⟨hlow, hhigh⟩, htimer, hdeferrals⟩

theorem stateFits_resetWith (straps : BitVec 4) : StateFits (State.resetWith straps) :=
  (stateFits_iff _).2 ⟨strapsRule_resetWith _, schedulersFit_resetWith _, valuesInRange_resetWith _⟩

theorem StationLine.inRange_reset : StationLine.reset.InRange :=
  ⟨fun i => by simp [StationLine.reset, Station.reset], rfl⟩

/-! ### Engines that go on from one mode to the next (section 4.1) -/

/-- An engine keeps its configuration, neither becomes ABSENT nor ceases to be it, and stays ON. -/
structure Engine.Follows (e e' : Engine) : Prop where
  config : e'.config = e.config
  absent : e'.mode = .absent ↔ e.mode = .absent
  on : e.mode = .on → e'.mode = .on

theorem Engine.Follows.of_same {e e' : Engine} (hmode : e'.mode = e.mode) (hconfig : e'.config = e.config) : e.Follows e' :=
  ⟨hconfig, by rw [hmode], fun h => hmode.trans h⟩

/-- A line that drains may become OFF (R61). -/
theorem Engine.toOff_follows {e : Engine} (h : e.mode = .draining) : e.Follows e.toOff :=
  ⟨rfl, by simp [Engine.toOff, h], by simp [h]⟩

theorem Engine.leaveSettle_follows (e : Engine) : e.Follows e.leaveSettle := by
  unfold Engine.leaveSettle
  split
  · exact .of_same rfl rfl
  · split
    · exact .of_same rfl rfl
    · exact .of_same rfl rfl

theorem Engine.settle_follows (e : Engine) (quiet : Nat) : e.Follows (e.settle quiet) := by
  have hleave := Engine.leaveSettle_follows { e with state := .settle, stuckTimer := some stuckLimit, stuckRaised := false }
  unfold Engine.settle
  dsimp only
  split
  · next hdraining => exact ⟨rfl, by simp [Engine.toOff, hdraining.1], by simp [hdraining.1]⟩
  · split
    · exact ⟨hleave.config, hleave.absent, hleave.on⟩
    · exact .of_same rfl rfl

/-- A line that is OFF may be turned ON (R58). -/
theorem Engine.turnOn_follows {e : Engine} (h : e.mode = .off) (quiet : Nat) : e.Follows (e.turnOn quiet) := by
  obtain ⟨hconfig, habsent, -⟩ := Engine.settle_follows { e with mode := .on } quiet
  exact ⟨hconfig, by simpa [h, Engine.turnOn] using habsent, by simp [h]⟩

theorem Engine.cleared_absent (e : Engine) : e.cleared.mode = .absent ↔ e.mode = .absent := by
  unfold Engine.cleared
  dsimp only
  split
  · next h => simp [h]
  · next h => simp [h]

/-! ### What a line may do and still fit -/

section
variable {strap : Bool} {e e' : Engine} {t : StationLine} {p : Scheduler} (h : LineFits strap e t p)
include h

theorem LineFits.follow (he : e.Follows e') : LineFits strap e' t p :=
  { h with absent := he.absent.trans h.absent, on := fun hrun => he.on (h.on hrun), config := he.config ▸ h.config }

/-- While the scheduler is STOPPED the line may leave ON. -/
theorem LineFits.leaveOn (hstopped : p.run = .stopped) (hconfig : e'.config = e.config)
    (habsent : e'.mode = .absent ↔ e.mode = .absent) : LineFits strap e' t p :=
  { h with absent := habsent.trans h.absent, config := hconfig ▸ h.config
           on := fun hrun => nomatch hstopped.symm.trans hrun }

/-- While the scheduler is RUNNING it may hold any claims (R108, R111). -/
theorem LineFits.claims (hrun : p.run = .running) (due : List EntryNo) : LineFits strap e t { p with due := due } :=
  { h with due := fun hstopped => nomatch hrun.symm.trans hstopped
           sched := ⟨h.sched.period, h.sched.cycleTimer, h.sched.deferrals⟩ }

/-- A stopped scheduler has no claims (R106). -/
theorem LineFits.halt : LineFits strap e t p.halt :=
  { h with on := nofun, due := fun _ => rfl, sched := ⟨h.sched.period, h.sched.cycleTimer, h.sched.deferrals⟩ }

/-- LINE_RESET stops the scheduler and keeps its period (R119, R121). -/
theorem LineFits.lineReset : LineFits strap e t p.lineReset := by
  have hsched : p.lineReset.InRange := by
    unfold Scheduler.lineReset
    exact ⟨h.sched.period, Nat.zero_le _, Nat.zero_le _⟩
  exact ⟨h.absent, nofun, fun _ => rfl, h.config, h.stations, hsched⟩

/-- A scheduler is set going on a line that is ON (R105). -/
theorem LineFits.runWith (hon : e.mode = .on) {period : Nat} (hperiod : 1 ≤ period ∧ period ≤ 65535) :
    LineFits strap e t (p.runWith period) :=
  { h with on := fun _ => hon, due := nofun, sched := ⟨hperiod, Nat.zero_le _, h.sched.deferrals⟩ }

/-- The cycle timer stays at 65535 once there (R107). -/
theorem LineFits.ticked : LineFits strap e t p.ticked := by
  unfold Scheduler.ticked
  split
  · exact { h with sched := ⟨h.sched.period, Nat.min_le_left .., h.sched.deferrals⟩ }
  · exact h

end

end Sys2Proof.Machine
end

/-! ### The relation -/

section
namespace Sys2Proof.Machine

/-- What a happening keeps on the way from a state to a later one: the payload memory, unless `w` says that the happening
writes it; and the straps rule, the scheduler rule and the ranges, once they hold. -/
structure Keeps (w : Prop) (s t : State) : Prop where
  mem : w ∨ t.pool.mem = s.pool.mem
  fit : StateFits s → StateFits t

theorem Keeps.refl (w : Prop) (s : State) : Keeps w s s := ⟨.inr rfl, id⟩

theorem Keeps.ite {w c : Prop} [Decidable c] {o s t : State} (hs : Keeps w o s) (ht : Keeps w o t) :
    Keeps w o (if c then s else t) := by
  split
  · exact hs
  · exact ht

/-- The part of a state that the memory and the ranges are about. -/
def State.looked (s : State) :=
  (s.pool.mem, s.straps, s.engines, s.stations, s.scheds, s.queue.highMark, s.queue.lowMark, s.queue.trigger,
    s.pool.hostReserve)

section
variable {w : Prop} {o s t : State} (h : Keeps w o s)
include h

/-- A change of anything that neither the memory nor the ranges are about. -/
theorem Keeps.frame (ht : t.looked = s.looked) : Keeps w o t := by
  simp only [State.looked, Prod.mk.injEq] at ht
  obtain ⟨hmem, hstraps, hengines, hstations, hscheds, hhigh, hlow, htrigger, hreserve⟩ := ht
  refine ⟨hmem ▸ h.mem, fun ho => ⟨fun l => ?_, ?_, hreserve ▸ (h.fit ho).reserve⟩⟩
  · unfold State.engine State.stationLine State.sched
    rw [hstraps, hengines, hstations, hscheds]
    exact (h.fit ho).line l
  · unfold MarksInRange
    rw [hhigh, hlow, htrigger]
    exact (h.fit ho).marks

/-- A change that is followed line by line. -/
theorem Keeps.byLine (hline : ∀ l, LineFits (s.straps.getLsb l) (s.engine l) (s.stationLine l) (s.sched l) →
      LineFits (t.straps.getLsb l) (t.engine l) (t.stationLine l) (t.sched l))
    (hpool : t.pool = s.pool) (hqueue : t.queue = s.queue) : Keeps w o t :=
  ⟨hpool ▸ h.mem, fun ho => ⟨fun l => hline l ((h.fit ho).line l), hqueue ▸ (h.fit ho).marks, hpool ▸ (h.fit ho).reserve⟩⟩

theorem Keeps.setEngineBy {l : Line} {x : Engine}
    (hx : ∀ strap, LineFits strap (s.engine l) (s.stationLine l) (s.sched l) →
      LineFits strap x (s.stationLine l) (s.sched l)) : Keeps w o (s.setEngine l x) := by
  refine h.byLine (fun k hk => ?_) rfl rfl
  rw [State.setEngine_engine]
  split
  · next hlk => exact hlk ▸ hx _ (hlk ▸ hk)
  · exact hk

theorem Keeps.setEngine {l : Line} {x : Engine} (hx : (s.engine l).Follows x) : Keeps w o (s.setEngine l x) :=
  h.setEngineBy fun _ hl => hl.follow hx

theorem Keeps.setStationLine {l : Line} {x : StationLine} (hx : (s.stationLine l).InRange → x.InRange) :
    Keeps w o (s.setStationLine l x) := by
  refine h.byLine (fun k hk => ?_) rfl rfl
  rw [State.setStationLine_stationLine]
  split
  · next hlk =>
    subst hlk
    exact { hk with stations := hx hk.stations }
  · exact hk

theorem Keeps.setSched {l : Line} {x : Scheduler}
    (hx : ∀ strap, LineFits strap (s.engine l) (s.stationLine l) (s.sched l) →
      LineFits strap (s.engine l) (s.stationLine l) x) : Keeps w o (s.setSched l x) := by
  refine h.byLine (fun k hk => ?_) rfl rfl
  rw [State.setSched_sched]
  split
  · next hlk => exact hlk ▸ hx _ (hlk ▸ hk)
  · exact hk

/-- A byte of a chain is written by a happening that writes the memory. -/
theorem Keeps.putChainByte (hw : w) (chain : List BlockNo) (i : Nat) (b : Byte) : Keeps w o (s.putChainByte chain i b) := by
  rw [State.putChainByte_eq]
  exact ⟨.inl hw, fun ho => ⟨(h.fit ho).line, (h.fit ho).marks, (h.fit ho).reserve⟩⟩

/-! ### The shared operations -/

theorem Keeps.setSlot (n : SlotNo) (x : Slot) : Keeps w o (s.setSlot n x) := h.frame rfl

theorem Keeps.setLink (l : Line) (x : Link) : Keeps w o (s.setLink l x) := h.frame rfl

theorem Keeps.modData (f : DataPort → DataPort) : Keeps w o (s.modData f) := h.frame rfl

theorem Keeps.post (code : ResponseCode) (info : List Byte) : Keeps w o (s.post code info) := h.frame rfl

theorem Keeps.setLost : Keeps w o s.setLost := h.frame rfl

theorem Keeps.raiseDmaEnd : Keeps w o s.raiseDmaEnd := h.frame rfl

theorem Keeps.raiseStuck (l : Line) : Keeps w o (s.raiseStuck l) := h.frame rfl

theorem Keeps.drive : Keeps w o s.drive := h.frame rfl

theorem Keeps.create (n : SlotNo) (x : Slot) : Keeps w o (s.create n x) := h.frame rfl

theorem Keeps.freeSlot (n : SlotNo) : Keeps w o (s.freeSlot n) := h.frame rfl

theorem Keeps.handToQueue (n : SlotNo) (kind : RecordKind) : Keeps w o (s.handToQueue n kind) := h.frame rfl

/-- The entries of a scheduler are in no range. -/
theorem Keeps.setEntries (l : Line) (entries : Table 16 PollEntry) :
    Keeps w o (s.setSched l { s.sched l with entries := entries }) :=
  h.setSched fun _ hl => { hl with sched := ⟨hl.sched.period, hl.sched.cycleTimer, hl.sched.deferrals⟩ }

end

/-- A station that joins a change set has a map bit above bit 0, since station 0 has no record (R87, R96). -/
theorem stationBit_zero {a : StationAddr} (h : stationIndex a ≠ none) : (stationBit a).getLsbD 0 = false := by
  have hpos : 0 < a := Fin.pos_iff_ne_zero.2 fun hzero => h ((stationIndex_eq_none_iff a).2 hzero)
  simp [stationBit, hpos]

theorem Station.count_le {s : State} {l : Line} (h : (s.stationLine l).InRange) (a : StationAddr) :
    (s.station l a).failureCount ≤ 15 := by
  unfold State.station
  split
  · exact h.counts _
  · decide

section
variable {w : Prop} {o s : State} (h : Keeps w o s)
include h

theorem Keeps.updateStation {f : Station → Station} (hf : ∀ x : Station, x.failureCount ≤ 15 → (f x).failureCount ≤ 15)
    (l : Line) (a : StationAddr) : Keeps w o (s.updateStation l a f) := by
  unfold State.updateStation
  split
  · exact h
  · next i hi =>
    refine h.setStationLine fun hl => ⟨fun j => ?_, ?_⟩
    · rw [Table.look_put]
      split
      · exact hf _ (Station.count_le hl a)
      · exact hl.counts j
    · dsimp only
      split
      · rw [BitVec.getLsbD_or, hl.changes, stationBit_zero (by simp [hi])]
        rfl
      · exact hl.changes

theorem Keeps.desync (n : SlotNo) (oc : TransactionOutcome) : Keeps w o (s.desync n oc) := by
  unfold State.desync
  split
  · exact h.updateStation (f := Station.unsynced) (fun _ hx => hx) _ _
  · exact h

theorem Keeps.joinTail (n : SlotNo) : Keeps w o (s.joinTail n) := (h.setSlot n _).setEngine (.of_same rfl rfl)

theorem Keeps.joinHead (n : SlotNo) : Keeps w o (s.joinHead n) := (h.setSlot n _).setEngine (.of_same rfl rfl)

theorem Keeps.pollHandOn (n : SlotNo) (oc : TransactionOutcome) : Keeps w o (s.pollHandOn n oc) := by
  unfold State.pollHandOn
  dsimp only
  split
  · have hdigest := h.setEntries (s.slot n).line
      ((s.sched (s.slot n).line).entries.put (s.slot n).entryNo
        { s.entry (s.slot n).line (s.slot n).entryNo with digest := some (s.replyDigest n) })
    split
    · exact hdigest.handToQueue n _
    · exact (hdigest.freeSlot n).setEntries _ _
  · exact (h.freeSlot n).setEntries _ _

theorem Keeps.complete (n : SlotNo) (oc : TransactionOutcome) : Keeps w o (s.complete n oc) := by
  have hended : Keeps w o ((s.modSlot n fun x => { x with outcome := some oc, doneTime := s.tick }).desync n oc) :=
    (h.setSlot n _).desync n oc
  unfold State.complete State.handOn
  dsimp only
  split
  · exact hended.handToQueue n _
  · exact hended.pollHandOn n oc

theorem Keeps.retireHead : Keeps w o s.retireHead := by
  unfold State.retireHead
  split
  · exact h
  · next r rest _ =>
    have hretired : Keeps w o (s.dropRecord.freeSlot r.slot) := h.frame rfl
    dsimp only
    split
    · exact hretired.setEntries _ _
    · exact hretired

end

section
variable {w : Prop} {o s : State}

theorem Keeps.completeAll (h : Keeps w o s) (ns : List SlotNo) (oc : TransactionOutcome) :
    Keeps w o (s.completeAll ns oc) := by
  induction ns generalizing s with
  | nil => exact h
  | cons n ns ih => exact ih (h.complete n oc)

theorem Keeps.completeQueue (h : Keeps w o s) (l : Line) (oc : TransactionOutcome) : Keeps w o (s.completeQueue l oc) := by
  have hemptied : Keeps w o (s.modEngine l fun e => { e with queue := [] }) := h.setEngine (.of_same rfl rfl)
  exact hemptied.completeAll _ _

end

end Sys2Proof.Machine
end

/-! ### What the engines keep (chapter 4) -/

section
namespace Sys2Proof.Machine

/-- A verdict leaves every failure count at most 15 (R89). -/
theorem Station.afterVerdict_count (v : Verdict) (x : Station) (h : x.failureCount ≤ 15) :
    (x.afterVerdict v).failureCount ≤ 15 := by
  cases v with
  | failed f => cases f <;> simp [Station.afterVerdict, h]
  | _ => simp [Station.afterVerdict]

section
variable {w : Prop} {o s : State} (h : Keeps w o s)
include h

theorem Keeps.settle (l : Line) : Keeps w o (s.settle l) := h.setEngine (Engine.settle_follows _ _)

theorem Keeps.release (l : Line) : Keeps w o (s.modEngine l Engine.release) := h.setEngine (.of_same rfl rfl)

theorem Keeps.completeActive (l : Line) (n : SlotNo) (oc : TransactionOutcome) : Keeps w o (s.completeActive l n oc) :=
  (h.release l).complete n oc

theorem Keeps.finishActive (l : Line) (n : SlotNo) (oc : TransactionOutcome) : Keeps w o (s.finishActive l n oc) :=
  (h.completeActive l n oc).settle l

/-! ### Verdicts -/

theorem Keeps.retry (n : SlotNo) (f : Failure) : Keeps w o (s.retry n f) := by
  have hfailed : Keeps w o (s.modSlot n fun x => { x with lastFailure := some f }) := h.setSlot n _
  unfold State.retry
  dsimp only
  split
  · split
    · exact hfailed.joinTail n
    · exact hfailed.joinHead n
  · exact hfailed.complete n _

theorem Keeps.actOnVerdict (l : Line) (n : SlotNo) (v : Verdict) : Keeps w o (s.actOnVerdict l n v) := by
  have hstored : Keeps w o (s.modSlot n fun x => { x with replyLength := some (s.link l).stored }) := h.setSlot n _
  have hresynced : Keeps w o (s.modEngine l Engine.resyncDone) := h.setEngine (.of_same rfl rfl)
  cases v with
  | goodReply => exact hstored.finishActive l n _
  | replyTooLong => exact hstored.finishActive l n _
  | goodAck => exact hresynced.settle l
  | failed f => exact ((h.release l).retry n f).settle l

theorem Keeps.verdict (l : Line) (v : Verdict) : Keeps w o (s.verdict l v) := by
  have hstopped : Keeps w o (s.modEngine l Engine.stopWaiting) := h.setEngine (.of_same rfl rfl)
  unfold State.verdict
  split
  · exact h
  · dsimp only
    split
    · exact hstopped.finishActive l _ _
    · split
      · exact hstopped.actOnVerdict l _ v
      · exact (hstopped.updateStation (Station.afterVerdict_count v) l _).actOnVerdict l _ v

/-! ### Taking and sending -/

theorem Keeps.takeHead (l : Line) : Keeps w o (s.takeHead l) := by
  unfold State.takeHead
  dsimp only
  split
  · split
    · exact h
    · exact (h.setSlot _ _).setEngine (.of_same rfl rfl)
  · exact h

theorem Keeps.leadExpired (l : Line) : Keeps w o (s.leadExpired l) := by
  unfold State.leadExpired
  dsimp only
  split
  · split
    · next n p _ _ =>
      have hbegun : Keeps w o (if (s.engine l).resynced then s
          else s.modSlot n fun y => { y with attempts := y.attempts + 1 }) := .ite h (h.setSlot n _)
      have hsending : Keeps w o (State.modEngine _ l fun y => { y with state := .transmit, leadTimer := none }) :=
        hbegun.setEngine (.of_same rfl rfl)
      exact (hsending.setLink l _).setLink l _
    · exact h
  · exact h

theorem Keeps.guardSpace (l : Line) : Keeps w o (s.guardSpace l) := by
  have hheard : Keeps w o (s.modLink l fun k => { k with quietTime := 0 }) := h.setLink l _
  unfold State.guardSpace
  dsimp only
  split
  · next n _ _ =>
    have hstopped : Keeps w o ((s.modLink l fun k => { k with quietTime := 0 }).modEngine l fun y =>
      { y with leadTimer := none }) := hheard.setEngine (.of_same rfl rfl)
    split
    · exact hstopped.settle l
    · exact ((hstopped.release l).joinHead n).settle l
  · split
    · exact h
    · exact hheard

theorem Keeps.holdEnded (l : Line) : Keeps w o (s.holdEnded l) := by
  have hstopped : Keeps w o (s.modEngine l fun y => { y with holdTimer := none }) := h.setEngine (.of_same rfl rfl)
  unfold State.holdEnded
  split
  · exact h
  · dsimp only
    split
    · exact hstopped.finishActive l _ _
    · split
      · exact hstopped.finishActive l _ _
      · exact hstopped.setEngine (.of_same rfl rfl)

theorem Keeps.holdExpired (l : Line) : Keeps w o (s.holdExpired l) := by
  unfold State.holdExpired
  split
  · exact h.holdEnded l
  · exact h

theorem Keeps.frameSent (l : Line) (n : SlotNo) (p : Phase) : Keeps w o (s.frameSent l n p) := by
  have hover : Keeps w o (s.modLink l Link.frameOver) := h.setLink l _
  have hsent : Keeps w o (if p = .request then
      (s.modLink l Link.frameOver).modSlot n fun x => { x with requestSent := true } else s.modLink l Link.frameOver) :=
    .ite (hover.setSlot n _) hover
  have hheld : Keeps w o (State.modEngine _ l fun y =>
      { y with state := .turnaround, holdTimer := some (s.engine l).config.turnaroundHold }) :=
    hsent.setEngine (.of_same rfl rfl)
  unfold State.frameSent
  dsimp only
  split
  · exact hheld.holdEnded l
  · exact hheld

theorem Keeps.characterEnded (l : Line) (readBack : BitVec 11) : Keeps w o (s.characterEnded l readBack) := by
  have hheard : Keeps w o (s.modLink l fun k => k.heardBack readBack) := h.setLink l _
  unfold State.characterEnded
  dsimp only
  split
  · split
    · split
      · exact hheard.setLink l _
      · exact hheard.frameSent l _ _
    · exact (hheard.setLink l _).verdict l _
  · exact h

/-! ### Waiting, receiving and settling -/

theorem Keeps.replyExpired (l : Line) : Keeps w o (s.replyExpired l) := by
  unfold State.replyExpired
  split
  · exact h.verdict l _
  · exact h

theorem Keeps.startBit (l : Line) : Keeps w o (s.startBit l) := by
  unfold State.startBit
  dsimp only
  split
  · split
    · exact (h.setLink l _).setEngine (.of_same rfl rfl)
    · exact (h.setLink l _).setEngine (.of_same rfl rfl)
    · exact h.setLink l _
  · exact h

theorem Keeps.tookCharacter (l : Line) (k : Link) : Keeps w o (s.tookCharacter l k) :=
  (h.setLink l _).setEngine (.of_same rfl rfl)

/-- A byte of the reply is stored in phase REQUEST alone (R53). -/
theorem Keeps.takeCharacter {p : Phase} (hw : p = .request → w) (l : Line) (x : Slot) (b : Byte) :
    Keeps w o (s.takeCharacter l x p b) := by
  unfold State.takeCharacter
  dsimp only
  split
  · exact h.tookCharacter l _
  split
  · exact h.tookCharacter l _
  split
  · exact h.tookCharacter l _
  split
  · split
    · next hstores => exact (h.putChainByte (hw hstores.1) _ _ _).tookCharacter l _
    · exact h.tookCharacter l _
  split
  · exact h.tookCharacter l _
  · exact (h.setLink l _).verdict l _

theorem Keeps.characterDelivered {l : Line} (hw : (s.engine l).state = .receive ∧ (s.engine l).phase = some .request → w)
    (samples : BitVec 10) : Keeps w o (s.characterDelivered l samples) := by
  unfold State.characterDelivered
  dsimp only
  split
  · split
    · next n p hstate _ hphase =>
      split
      · exact (h.setLink l _).verdict l _
      · exact (h.setLink l _).takeCharacter (fun hp => hw ⟨hstate, hp ▸ hphase⟩) l _ _
    · exact h.setLink l _
  · exact h

theorem Keeps.gapExpired (l : Line) : Keeps w o (s.gapExpired l) := by
  unfold State.gapExpired
  dsimp only
  split
  · exact (h.setLink l _).verdict l _
  · exact h

theorem Keeps.settled (l : Line) : Keeps w o (s.settled l) := by
  have hquiet : Keeps w o (s.modLink l fun k => { k with quietTime := max k.quietTime (s.engine l).config.settleGap }) :=
    h.setLink l _
  unfold State.settled
  dsimp only
  split
  · exact h
  · split
    · exact hquiet.setEngine (Engine.leaveSettle_follows _)
    · exact hquiet

theorem Keeps.stuckExpired (l : Line) : Keeps w o (s.stuckExpired l) := by
  unfold State.stuckExpired
  dsimp only
  split
  · split
    · exact h.setEngine (.of_same rfl rfl)
    · exact (h.raiseStuck l).setEngine (.of_same rfl rfl)
  · exact h

theorem Keeps.reArm (l : Line) : Keeps w o (s.reArm l) := by
  unfold State.reArm
  split
  · exact h.frame rfl
  · exact h

/-! ### Cancelling the active slot -/

theorem Keeps.engineCancel (l : Line) (n : SlotNo) (oc : TransactionOutcome) : Keeps w o (s.engineCancel l n oc) := by
  have hled : Keeps w o (s.modEngine l fun e => { e with leadTimer := none }) := h.setEngine (.of_same rfl rfl)
  have hstopped : Keeps w o (s.modEngine l Engine.stopWaiting) := h.setEngine (.of_same rfl rfl)
  unfold State.engineCancel
  split
  · exact hled.finishActive l n oc
  · refine (h.completeActive l n oc).setEngine ?_
    dsimp only
    split
    · next hdraining => exact Engine.toOff_follows hdraining
    · exact .of_same rfl rfl
  · exact hstopped.finishActive l n oc
  · exact hstopped.finishActive l n oc
  · exact h

theorem Keeps.cancelActive (l : Line) (oc : PendingOutcome) : Keeps w o (s.cancelActive l oc) := by
  unfold State.cancelActive
  split
  · exact h
  · split
    · exact h
    · exact (h.setSlot _ _).engineCancel l _ _

end

end Sys2Proof.Machine
end

/-! ### What the Data Port, the readout and the Poll Scheduler keep (chapters 6, 7 and 9) -/

section
namespace Sys2Proof.Machine

section
variable {w : Prop} {o s : State} (h : Keeps w o s)
include h

theorem Keeps.intakeComplete : Keeps w o s.intakeComplete := by
  unfold State.intakeComplete
  split
  · exact h.modData _
  · exact ((h.joinTail _).post _ _).modData _

theorem Keeps.intakeAbandoned (code : ResponseCode) : Keeps w o (s.intakeAbandoned code) := by
  unfold State.intakeAbandoned
  split
  · exact (h.post _ _).modData _
  · exact ((h.freeSlot _).post _ _).modData _

theorem Keeps.moveIn (hw : w) (b : Byte) (dma tc : Bool) : Keeps w o (s.moveIn b dma tc) := by
  have htaken : Keeps w o ((s.putChainByte s.loadingChain s.data.moved b).modData fun d => d.movedByte dma) :=
    (h.putChainByte hw _ _ _).modData _
  have hraised := htaken.raiseDmaEnd
  unfold State.moveIn
  dsimp only
  split
  · split
    · exact hraised.intakeComplete
    · exact hraised.intakeAbandoned _
  · split
    · split
      · exact hraised.intakeComplete
      · exact htaken.intakeComplete
    · exact htaken

/-- Only an INTAKE owner takes a byte (R166). -/
theorem Keeps.dataIn (hw : s.data.owner = .intake → w) (b : Byte) (dma tc : Bool) : Keeps w o (s.dataIn b dma tc) := by
  unfold State.dataIn
  split
  · next howner => exact h.moveIn (hw howner) b dma tc
  · exact h.setLost

theorem Keeps.outflowComplete : Keeps w o s.outflowComplete := h.retireHead.modData _

theorem Keeps.moveOut (dma tc : Bool) : Keeps w o (s.moveOut dma tc) := by
  have hdelivered : Keeps w o (s.modData fun d => d.movedByte dma) := h.modData _
  have hraised := hdelivered.raiseDmaEnd
  unfold State.moveOut
  dsimp only
  split
  · split
    · exact hraised.outflowComplete
    · exact hraised.modData _
  · split
    · split
      · exact hraised.outflowComplete
      · exact hdelivered.outflowComplete
    · exact hdelivered

theorem Keeps.dataOut (dma tc : Bool) : Keeps w o (s.dataOut dma tc).2 := by
  unfold State.dataOut
  split
  · exact h.moveOut dma tc
  · exact h

theorem Keeps.headerEnd (r : Record) : Keeps w o (s.headerEnd r) := by
  unfold State.headerEnd
  split
  · exact h.retireHead
  · exact h.frame rfl

theorem Keeps.readResult : Keeps w o s.readResult.2 := by
  unfold State.readResult
  split
  · exact h
  · dsimp only
    split
    · dsimp only
      split
      · exact h.headerEnd _
      · exact h.frame rfl
    · exact h

theorem Keeps.discard : Keeps w o s.discard := by
  unfold State.discard
  split
  · exact h
  · exact (h.modData _).retireHead

theorem Keeps.abort : Keeps w o s.abort := by
  rw [State.abort_frame]
  exact h.frame rfl

/-! ### The Poll Scheduler -/

/-- Only a RUNNING scheduler starts a cycle, whose due entries are its claims (R107, R111). -/
theorem Keeps.startCycle {l : Line} (hrun : (s.sched l).run = .running) : Keeps w o (s.startCycle l) := by
  have hdropped : Keeps w o (s.modSched l fun p =>
      { p with due := [], cycleNumber := (s.sched l).cycleNumber + 1, cycleTimer := 0 }) :=
    h.setSched fun _ hl =>
      { hl with due := fun _ => rfl, sched := ⟨hl.sched.period, Nat.zero_le _, hl.sched.deferrals⟩ }
  have hjudged : Keeps w o (State.modSched _ l fun p => { p with due := s.dueEntries l (s.sched l).cycleNumber }) :=
    hdropped.setSched fun _ hl => hl.claims (by simpa using hrun) _
  unfold State.startCycle
  dsimp only
  split
  · exact hdropped
  · split
    · exact hjudged.frame rfl
    · exact hjudged

theorem Keeps.cycleDue (l : Line) : Keeps w o (s.cycleDue l) := by
  unfold State.cycleDue
  split
  · next hdue => exact h.startCycle hdue.1
  · exact h

theorem Keeps.advanceTick : Keeps w o s.advanceTick := by
  refine h.byLine (fun l hl => ?_) rfl rfl
  have hsched : s.advanceTick.sched l = (s.sched l).ticked := Table.look_make ..
  rw [hsched]
  exact hl.ticked

theorem Keeps.defer (l : Line) : Keeps w o (s.defer l) :=
  h.setSched fun _ hl => { hl with sched := ⟨hl.sched.period, hl.sched.cycleTimer, Nat.min_le_left ..⟩ }

/-- A poll creation writes the item code as payload byte 0 (R51). -/
theorem Keeps.createPoll (hw : w) (l : Line) (e : EntryNo) (d : PollDef) (n : SlotNo) :
    Keeps w o (s.createPoll l e d n) := by
  have hcreated := h.create n (pollSlot l e d)
  exact ((hcreated.putChainByte hw _ _ _).joinTail n).setEntries _ _

theorem Keeps.claim {l : Line} (hw : (s.sched l).due ≠ [] → w) : Keeps w o (s.claim l) := by
  unfold State.claim
  split
  · next e rest hrun hdue =>
    have hw : w := hw (by simp [hdue])
    have hclaimed : Keeps w o (s.modSched l fun p => { p with due := rest }) :=
      h.setSched fun _ hl => hl.claims hrun rest
    dsimp only
    split
    · exact hclaimed
    · split
      · split
        · exact hclaimed.createPoll hw l e _ _
        · exact hclaimed.defer l
      · exact hclaimed.defer l
  · exact h

end

end Sys2Proof.Machine
end

/-! ### What the commands keep (sections 8.2 and 8.3) -/

section
namespace Sys2Proof.Machine

/-- The values that a request hands to the ranges: those of LINE_SET, POLL_RUN and QUEUE_SET. -/
def Request.InRange : Request → Prop
  | .lineSet _ c => ConfigInRange c
  | .pollRun _ period => 1 ≤ period ∧ period ≤ 65535
  | .queueSet high low trigger reserve =>
    (1 ≤ high ∧ high ≤ 16 ∧ low < high ∧ 1 ≤ trigger ∧ trigger ≤ 16) ∧ reserve ≤ 64
  | _ => True

theorem firstBad_eq_none_iff (checks : List (Nat × Bool)) : firstBad checks = none ↔ ∀ c ∈ checks, c.2 = true := by
  induction checks with
  | nil => simp [firstBad]
  | cons c checks ih =>
    obtain ⟨i, good⟩ := c
    cases good <;> simp [firstBad, ih]

/-- A request is read exactly if every check passes (R145, R146). -/
theorem checked_eq_ok_iff (checks : List (Nat × Bool)) (r r' : Request) :
    checked checks r = .ok r' ↔ r = r' ∧ ∀ c ∈ checks, c.2 = true := by
  unfold checked
  split
  · next hgood =>
    rw [Except.ok.injEq]
    exact (and_iff_left ((firstBad_eq_none_iff _).1 hgood)).symm
  · next i hbad =>
    simp only [reduceCtorEq, false_iff, not_and]
    intro _ hall
    rw [(firstBad_eq_none_iff _).2 hall] at hbad
    cases hbad

theorem within_iff (b : Byte) (lo hi : Nat) : within b lo hi = true ↔ lo ≤ b.toNat ∧ b.toNat ≤ hi := by simp [within]

/-- QUERY hands no value to the ranges. -/
theorem parseQuery_inRange {kind a b : Byte} {r : Request} (h : parseQuery kind a b = .ok r) : r.InRange := by
  unfold parseQuery at h
  split at h
  · cases h
    trivial
  iterate 5
    split at h
    · obtain ⟨rfl, -⟩ := (checked_eq_ok_iff ..).1 h
      trivial
  cases h

/-- The range checks let only values in range through (R146, R160, section 8.3). -/
theorem parseRequest_inRange {op : Opcode} {ps : List Byte} {r : Request} (h : parseRequest op ps = .ok r) : r.InRange := by
  unfold parseRequest at h
  split at h
  case h_4 line divLow divHigh hold timeout gap settle threshold probe =>
    obtain ⟨rfl, hchecks⟩ := (checked_eq_ok_iff ..).1 h
    simp only [List.forall_mem_cons, within_iff, decide_eq_true_eq] at hchecks
    obtain ⟨-, hdivisor, hhold, htimeout, hgap, hsettle, hthreshold, hprobe, -⟩ := hchecks
    exact ⟨⟨hdivisor, Nat.le_of_lt_succ (BitVec.isLt _)⟩, hhold.2, htimeout, hgap, hsettle, hthreshold, hprobe⟩
  case h_9 line periodLow periodHigh =>
    obtain ⟨rfl, hchecks⟩ := (checked_eq_ok_iff ..).1 h
    simp only [List.forall_mem_cons, decide_eq_true_eq] at hchecks
    exact ⟨hchecks.2.1, Nat.le_of_lt_succ (BitVec.isLt _)⟩
  case h_12 => exact parseQuery_inRange h
  case h_13 high low trigger reserve =>
    obtain ⟨rfl, hchecks⟩ := (checked_eq_ok_iff ..).1 h
    simp only [List.forall_mem_cons, within_iff, Bool.and_eq_true, decide_eq_true_eq] at hchecks
    obtain ⟨hhigh, hlow, htrigger, hreserve, -⟩ := hchecks
    exact ⟨⟨hhigh.1, hhigh.2, hlow.2, htrigger⟩, hreserve.2⟩
  case h_14 => cases h
  all_goals
    obtain ⟨rfl, -⟩ := (checked_eq_ok_iff ..).1 h
    trivial

/-- Stations that join a change set leave bit 0 of the map clear. -/
theorem stationBits_zero (as : List StationAddr) (has : ∀ a ∈ as, stationIndex a ≠ none) (m : BitVec 32)
    (hm : m.getLsbD 0 = false) : (as.foldl (fun m a => m ||| stationBit a) m).getLsbD 0 = false := by
  induction as generalizing m with
  | nil => exact hm
  | cons a as ih =>
    obtain ⟨ha, has⟩ := List.forall_mem_cons.1 has
    exact ih has _ (by rw [BitVec.getLsbD_or, hm, stationBit_zero ha]; rfl)

theorem StationLine.rederived_inRange {t : StationLine} (h : t.InRange) (old new : Nat) : (t.rederived old new).InRange := by
  refine ⟨h.counts, stationBits_zero _ (fun a ha hnone => ?_) _ h.changes⟩
  obtain ⟨-, hcrosses⟩ := List.mem_filter.1 ha
  simp [StationLine.crosses, hnone] at hcrosses

theorem StationAction.apply_count (act : StationAction) (x : Station) (h : x.failureCount ≤ 15) :
    (StationAction.apply x act).failureCount ≤ 15 := by
  cases act with
  | clearCount => exact Nat.zero_le _
  | forceUnsync => exact h
  | forceOffline => exact le_rfl

section
variable {w : Prop} {o s : State} (h : Keeps w o s)
include h

theorem Keeps.configure (l : Line) {c : LineConfig} (hc : ConfigInRange c) : Keeps w o (s.configure l c) := by
  have hset : Keeps w o (s.modEngine l fun e => { e with config := c }) :=
    h.setEngineBy fun _ hl => { hl with config := hc }
  have hlink : Keeps w o (if c.divisor = (s.engine l).config.divisor then s.modEngine l fun e => { e with config := c }
      else (s.modEngine l fun e => { e with config := c }).modLink l Link.newDivisor) := .ite hset (hset.setLink l _)
  unfold State.configure
  dsimp only
  split
  · exact hlink
  · exact hlink.setStationLine fun ht => StationLine.rederived_inRange ht _ _

theorem Keeps.halt (l : Line) : Keeps w o (s.modSched l Scheduler.halt) := h.setSched fun _ hl => hl.halt

/-- A line that is ON drains only with its scheduler STOPPED. -/
theorem Keeps.drain {l : Line} (k : DrainKind) (hpresent : (s.engine l).mode ≠ .absent)
    (hstopped : (s.engine l).mode = .on → (s.sched l).run = .stopped) :
    Keeps w o (s.modEngine l fun e => e.drain k) := by
  have habsent : ((s.engine l).drain k).mode = .absent ↔ (s.engine l).mode = .absent := by simp [Engine.drain, hpresent]
  by_cases hon : (s.engine l).mode = .on
  · exact h.setEngineBy fun _ hl => hl.leaveOn (hstopped hon) rfl habsent
  · exact h.setEngine ⟨rfl, habsent, fun hon' => absurd hon' hon⟩

theorem Keeps.abortLine {l : Line} (hpresent : (s.engine l).mode ≠ .absent)
    (hstopped : (s.engine l).mode = .on → (s.sched l).run = .stopped) : Keeps w o (s.abortLine l) :=
  ((h.drain _ hpresent hstopped).completeQueue l _).cancelActive l _

/-- LINE_OFF stops the scheduler before the line leaves ON (R59, R106). -/
theorem Keeps.turnOff {l : Line} (hon : (s.engine l).mode = .on) (k : DrainKind) : Keeps w o (s.turnOff l k) := by
  have hpresent : (s.engine l).mode ≠ .absent := by simp [hon]
  have hstopped : ((s.modSched l Scheduler.halt).sched l).run = .stopped := by simp [Scheduler.halt]
  have hoff : Keeps w o ((s.modSched l Scheduler.halt).modEngine l Engine.toOff) :=
    (h.halt l).setEngineBy fun _ hl => hl.leaveOn hstopped rfl (by simp [Engine.toOff, hpresent])
  unfold State.turnOff
  dsimp only
  split
  · exact hoff
  · exact hoff.completeQueue l _
  · exact (h.halt l).drain _ hpresent fun _ => hstopped
  · exact (h.halt l).abortLine hpresent fun _ => hstopped

theorem Keeps.resetActive (l : Line) : Keeps w o (s.resetActive l) := by
  unfold State.resetActive
  split
  · exact h
  · exact h.completeActive l _ _

/-- The blocks of a line in LINE_RESET (R62, R121): the scheduler stops, and the line leaves ON. -/
theorem Keeps.clearLine (l : Line) (u : EventUnit) :
    Keeps w o { ((s.modEngine l Engine.cleared).setStationLine l StationLine.reset).modSched l Scheduler.lineReset with
      events := u } := by
  have hsched : Keeps w o (s.modSched l Scheduler.lineReset) := h.setSched fun _ hl => hl.lineReset
  have hstopped : ((s.modSched l Scheduler.lineReset).sched l).run = .stopped := by
    simp [Scheduler.lineReset, Scheduler.reset]
  have hengine : Keeps w o ((s.modSched l Scheduler.lineReset).modEngine l Engine.cleared) :=
    hsched.setEngineBy fun _ hl => hl.leaveOn hstopped rfl (Engine.cleared_absent _)
  exact (hengine.setStationLine fun _ => StationLine.inRange_reset).frame rfl

theorem Keeps.resetLine (l : Line) : Keeps w o (s.resetLine l) := by
  have hcut : Keeps w o (s.modLink l Link.cut) := h.setLink l _
  exact ((hcut.completeQueue l _).resetActive l).clearLine l _

theorem Keeps.ifPresent {l : Line} {k : State} (hk : (s.engine l).mode ≠ .absent → Keeps w o k) :
    Keeps w o (s.ifPresent l k) := by
  unfold State.ifPresent
  split
  · exact h.post _ _
  · next hpresent => exact hk hpresent

theorem Keeps.submitGranted (p : SubmitParams) (n : SlotNo) : Keeps w o (s.submitGranted p n) := by
  have hmade := h.create n p.slot
  unfold State.submitGranted
  dsimp only
  split
  · exact (hmade.joinTail n).post _ _
  · exact hmade.frame rfl

theorem Keeps.takeSubmit (p : SubmitParams) : Keeps w o (s.takeSubmit p) := by
  refine h.ifPresent fun _ => ?_
  split
  · exact h.post _ _
  · split
    · exact h.post _ _
    · split
      · exact h.post _ _
      · exact h.submitGranted p _

theorem Keeps.takeCancel (n : SlotNo) : Keeps w o (s.takeCancel n) := by
  unfold State.takeCancel
  dsimp only
  split
  · have hout : Keeps w o (s.modEngine (s.slot n).line fun e => { e with queue := e.queue.erase n }) :=
      h.setEngine (.of_same rfl rfl)
    exact (hout.complete n _).post _ _
  · split
    · exact (h.cancelActive _ _).post _ _
    · exact h.post _ _
  · exact h.post _ _

theorem Keeps.takePurge (l : Line) : Keeps w o (s.takePurge l) := h.ifPresent fun _ => (h.completeQueue l _).post _ _

theorem Keeps.takeLineSet (l : Line) {c : LineConfig} (hc : ConfigInRange c) : Keeps w o (s.takeLineSet l c) := by
  refine h.ifPresent fun _ => ?_
  split
  · exact (h.configure l hc).post _ _
  · exact h.post _ _

theorem Keeps.takeLineOn (l : Line) : Keeps w o (s.takeLineOn l) := by
  refine h.ifPresent fun _ => ?_
  split
  · next hoff =>
    have hturned : Keeps w o (s.modEngine l fun e => e.turnOn (s.link l).quietTime) :=
      h.setEngine (Engine.turnOn_follows hoff _)
    exact hturned.post _ _
  · exact h.post _ _

theorem Keeps.takeLineOff (l : Line) (k : DrainKind) : Keeps w o (s.takeLineOff l k) := by
  unfold State.takeLineOff
  split
  · exact h.post _ _
  · exact h.post _ _
  · next hon => exact (h.turnOff hon k).post _ _
  · next hdraining =>
    split
    · exact (h.abortLine (l := l) (by simp [hdraining]) (by simp [hdraining])).post _ _
    · exact h.post _ _

theorem Keeps.takeLineReset (l : Line) : Keeps w o (s.takeLineReset l) := h.ifPresent fun _ => (h.resetLine l).post _ _

theorem Keeps.takePollSet (l : Line) (e : EntryNo) (d : PollDef) : Keeps w o (s.takePollSet l e d) := by
  refine h.ifPresent fun _ => ?_
  split
  · exact h.post _ _
  · exact (h.setEntries l _).post _ _

/-- A scheduler is set going on a line that is ON, and a cycle starts at once (R105). -/
theorem Keeps.takePollRun (l : Line) {period : Nat} (hperiod : 1 ≤ period ∧ period ≤ 65535) :
    Keeps w o (s.takePollRun l period) := by
  refine h.ifPresent fun _ => ?_
  split
  · next hon =>
    have hrun : Keeps w o (s.modSched l fun p => p.runWith period) := h.setSched fun _ hl => hl.runWith hon hperiod
    exact (hrun.startCycle (l := l) (by simp [Scheduler.runWith])).post _ _
  · exact h.post _ _

theorem Keeps.takePollHalt (l : Line) : Keeps w o (s.takePollHalt l) := h.ifPresent fun _ => (h.halt l).post _ _

theorem Keeps.takeStationSet (l : Line) (a : StationAddr) (act : StationAction) : Keeps w o (s.takeStationSet l a act) :=
  h.ifPresent fun _ => (h.updateStation act.apply_count l a).post _ _

/-- QUERY LINE sets the deferral count to 0 (R118). -/
theorem Keeps.takeQueryLine (l : Line) : Keeps w o (s.takeQueryLine l) := by
  have hset : Keeps w o (s.modSched l fun p => { p with deferrals := 0 }) :=
    h.setSched fun _ hl => { hl with sched := ⟨hl.sched.period, hl.sched.cycleTimer, Nat.zero_le _⟩ }
  exact hset.post _ _

/-- QUERY CHANGES empties the change set (R96). -/
theorem Keeps.takeQueryChanges (l : Line) : Keeps w o (s.takeQueryChanges l) := by
  have hemptied : Keeps w o (s.setStationLine l { s.stationLine l with changes := 0 }) :=
    h.setStationLine fun ht => ⟨ht.counts, BitVec.getLsbD_zero⟩
  exact hemptied.post _ _

theorem Keeps.takeQueueSet {high low trigger reserve : Nat}
    (hrange : (Request.queueSet high low trigger reserve).InRange) : Keeps w o (s.takeQueueSet high low trigger reserve) :=
  ⟨h.mem, fun ho => ⟨(h.fit ho).line, hrange.1, hrange.2⟩⟩

theorem Keeps.takeRequest {r : Request} (hr : r.InRange) : Keeps w o (s.takeRequest r) := by
  cases r with
  | submit p => exact h.takeSubmit p
  | cancel n => exact h.takeCancel n
  | purge l => exact h.takePurge l
  | lineSet l c => exact h.takeLineSet l hr
  | lineOn l => exact h.takeLineOn l
  | lineOff l k => exact h.takeLineOff l k
  | lineReset l => exact h.takeLineReset l
  | pollSet l e d => exact h.takePollSet l e d
  | pollRun l p => exact h.takePollRun l hr
  | pollHalt l => exact h.takePollHalt l
  | stationSet l a act => exact h.takeStationSet l a act
  | queryLine l => exact h.takeQueryLine l
  | queryChanges l => exact h.takeQueryChanges l
  | queueSet high low trigger reserve => exact h.takeQueueSet hr
  | queryPool | querySlot | queryStation | queryEntry => exact h.frame rfl

theorem Keeps.writeCommand (b : Byte) : Keeps w o (s.writeCommand b) := by
  unfold State.writeCommand
  split
  · unfold State.takeOpcode
    split
    · exact h.frame rfl
    · exact h.frame rfl
  · unfold State.takeParameter
    split
    · exact h
    · have hjoined : Keeps w o { s with port := { s.port with params := s.port.params ++ [b] } } := h.frame rfl
      dsimp only
      split
      · exact hjoined
      · unfold State.takeCommand
        split
        · exact hjoined.post _ _
        · next hparsed => exact hjoined.takeRequest (parseRequest_inRange hparsed)
  · exact h.setLost
  · exact h.setLost

/-- A soft reset stops every scheduler, and no line stays ON (R63, R119, R185). -/
theorem Keeps.softReset : Keeps w o s.softReset := by
  refine ⟨h.mem, fun ho => ⟨fun l => ?_, (h.fit ho).marks, (h.fit ho).reserve⟩⟩
  have hl := (h.fit ho).line l
  have hengine : s.softReset.engine l = (s.engine l).cleared := Table.look_make ..
  have hstations : s.softReset.stationLine l = StationLine.reset := Table.look_fill ..
  have hsched : s.softReset.sched l = (s.sched l).softReset := Table.look_make ..
  rw [hengine, hstations, hsched]
  exact ⟨(Engine.cleared_absent _).trans hl.absent, nofun, fun _ => rfl, hl.config, StationLine.inRange_reset,
    ⟨by simp [Scheduler.softReset, Scheduler.reset], Nat.zero_le _, Nat.zero_le _⟩⟩

theorem Keeps.writeBusEnable (b : Byte) : Keeps w o (s.writeBusEnable b) := h.frame rfl

theorem Keeps.writeResultDma (b : Byte) : Keeps w o (s.writeResultDma b) := h.modData _

theorem Keeps.writeControl (b : Byte) : Keeps w o (s.writeControl b) := by
  have hreset : Keeps w o (if b.getLsbD 0 then s.softReset else s) := .ite h.softReset h
  have habort := Keeps.ite (c := b.getLsbD 1) hreset.abort hreset
  have hdiscard := Keeps.ite (c := b.getLsbD 2) habort.discard habort
  exact (hdiscard.writeBusEnable b).writeResultDma b

theorem Keeps.writeAt {offset : Fin 8} (hw : s.data.owner = .intake ∧ offset = 3 → w) (b : Byte) :
    Keeps w o (s.writeAt offset b) := by
  unfold State.writeAt
  split
  · exact h
  · split
    · exact h.writeCommand b
    · exact h.writeControl b
    · exact h.dataIn (fun howner => hw ⟨howner, rfl⟩) b _ _
    · exact h.frame rfl
    · exact h

theorem Keeps.readResponse : Keeps w o s.readResponse.2 := by
  unfold State.readResponse
  split
  · exact h.frame rfl
  · exact h

theorem Keeps.readCause : Keeps w o s.readCause.2 := by
  unfold State.readCause
  split
  · exact h
  · exact h.frame rfl

end

end Sys2Proof.Machine
end

/-! ### What every command and every step keeps -/

section
namespace Sys2Proof.Machine

/-- The commands that may write the payload memory of a state (R45, section 3.4): a byte for an INTAKE owner, a poll
creation, a character received in phase REQUEST, and hardware reset. -/
def WritesMemory (c : Instr) (s : State) : Prop :=
  (s.data.owner = .intake ∧ ((∃ b : Byte, c = .dataWrite b ∨ c = .ignoredWrite 3 b) ∨
    ∃ (b : Byte) (tc : Bool), c = .dmaWriteAck b tc)) ∨
  (∃ l : Line, c = .pollClaim l ∧ (s.sched l).due ≠ []) ∨
  (∃ (l : Line) (samples : BitVec 10), c = .characterReceived l samples ∧ (s.engine l).state = .receive ∧
    (s.engine l).phase = some .request) ∨
  ∃ straps : BitVec 4, c = .hardwareReset straps

section
variable {w : Prop} {s t : State}

/-- A happening keeps what its effect keeps. -/
theorem Keeps.of_happening {f : State → State} (ht : happening f s = .next t) (hf : Keeps w s (f s)) : Keeps w s t := by
  cases hs : s.inReset with
  | true =>
    rw [happening_of_inReset hs] at ht
    cases ht
    exact .refl w s
  | false =>
    rw [happening_of_running hs] at ht
    cases ht
    exact hf.drive

theorem Keeps.of_readHappening {f : State → Byte × State} (ht : readHappening f s = .next t) (hf : Keeps w s (f s).2) :
    Keeps w s t := by
  cases hs : s.inReset with
  | true =>
    rw [readHappening_of_inReset hs] at ht
    cases ht
    exact (Keeps.refl w s).frame rfl
  | false =>
    rw [readHappening_of_running hs] at ht
    cases ht
    exact hf.frame rfl

/-- Every command keeps the ranges, and the memory too unless it is one of the memory's writers. -/
theorem keeps_of_exec {c : Instr} (ht : exec c s = .next t) : Keeps (WritesMemory c s) s t := by
  have h := Keeps.refl (WritesMemory c s) s
  cases c <;> dsimp only [exec] at ht
  case hardwareReset straps =>
    cases ht
    have hreset := stateFits_resetWith straps
    exact ⟨.inl (.inr (.inr (.inr ⟨straps, rfl⟩))), fun _ => ⟨hreset.line, hreset.marks, hreset.reserve⟩⟩
  case resetInputActive =>
    cases ht
    exact h.frame rfl
  case softReset => exact .of_happening ht h.softReset
  case abortCmd => exact .of_happening ht h.abort
  case discardHead => exact .of_happening ht h.discard
  case busEnable | resultDma | eventMaskWrite => exact .of_happening ht (h.frame rfl)
  case tick => exact .of_happening ht h.advanceTick
  case responseRead => exact .of_readHappening ht h.readResponse
  case resultRead => exact .of_readHappening ht h.readResult
  case dataWrite b =>
    exact .of_happening ht (h.dataIn (fun howner => .inl ⟨howner, .inl ⟨b, .inl rfl⟩⟩) b _ _)
  case dataRead => exact .of_readHappening ht (h.dataOut _ _)
  case dmaWriteAck b tc =>
    exact .of_happening ht (h.dataIn (fun howner => .inl ⟨howner, .inr ⟨b, tc, rfl⟩⟩) b _ tc)
  case dmaReadAck tc => exact .of_readHappening ht (h.dataOut _ tc)
  case causeRead => exact .of_readHappening ht h.readCause
  case tickLowRead => exact .of_readHappening ht (h.frame rfl)
  case ignoredWrite offset b =>
    unfold execIgnoredWrite at ht
    split at ht
    · cases ht
      exact h
    · exact .of_happening ht (h.writeAt (fun ⟨howner, hoffset⟩ => .inl ⟨howner, .inl ⟨b, .inr (hoffset ▸ rfl)⟩⟩) b)
  case cycleStart l => exact .of_happening ht (h.cycleDue l)
  case pollClaim l => exact .of_happening ht (h.claim fun hdue => .inr (.inl ⟨l, rfl, hdue⟩))
  case take l => exact .of_happening ht (h.takeHead l)
  case leadTimerExpiry l => exact .of_happening ht (h.leadExpired l)
  case guardSpaceHeard l => exact .of_happening ht (h.guardSpace l)
  case characterSent l readBack => exact .of_happening ht (h.characterEnded l readBack)
  case holdTimerExpiry l => exact .of_happening ht (h.holdExpired l)
  case replyTimeout l => exact .of_happening ht (h.replyExpired l)
  case startBitTaken l => exact .of_happening ht (h.startBit l)
  case characterReceived l samples =>
    exact .of_happening ht (h.characterDelivered
      (fun ⟨hstate, hphase⟩ => .inr (.inr (.inl ⟨l, samples, rfl, hstate, hphase⟩))) samples)
  case gapLimitExpiry l => exact .of_happening ht (h.gapExpired l)
  case settleQuiet l => exact .of_happening ht (h.settled l)
  case stuckTimerExpiry l => exact .of_happening ht (h.stuckExpired l)
  case receiverReArm l => exact .of_happening ht (h.reArm l)
  case opcodeByte | parameterByte | commandWriteDropped | submit | cancel | purge | lineSet | lineOn | lineOff | lineReset |
      pollSet | pollRun | pollHalt | stationSet | queryPool | querySlot | queryLine | queryStation | queryChanges |
      queryEntry | queueSet => exact .of_happening ht (h.writeCommand _)

end

/-- Settles O58: every command but the writers keeps the memory as a whole, and with it each byte. -/
theorem memoryChangesOnlyByItsWriters : Obligations.MemoryChangesOnlyByItsWriters := by
  intro c s t a ht hchanged
  exact (keeps_of_exec ht).mem.resolve_right fun hsame => hchanged (by rw [hsame])

/-- Settles O55: every command keeps the three predicates together, line by line; the step itself only takes the command from
those that wait. -/
theorem strapsSchedulersAndValuesStayFit : Obligations.StrapsSchedulersAndValuesStayFit := by
  intro s t hstraps hscheds hvalues ht
  have hs := (stateFits_iff s).2 ⟨hstraps, hscheds, hvalues⟩
  rw [← stateFits_iff]
  unfold step at ht
  split at ht
  · cases ht
    exact hs
  · exact (keeps_of_exec ht).fit ⟨hs.line, hs.marks, hs.reserve⟩

end Sys2Proof.Machine
end

/-! # The Line Engines (chapter 4)

SUPPORT. What every happening leaves of an engine that chapter 4 allows; then the effects of the engines' happenings. -/

/-! ### Engines that chapter 4 allows -/

section
namespace Sys2Proof.Machine

/-- An engine of a line that is ON or DRAINING: drain kind, slot, phase and resynced stand together (section 4.1, R68, R80). -/
def Engine.Sound (e : Engine) : Prop :=
  (e.mode = .on ∨ e.mode = .draining) ∧ (e.drainKind.isSome = true ↔ e.mode = .draining) ∧
    e.active.isSome = e.phase.isSome ∧ (e.resynced = true → e.phase = some .request)

/-- No timer or watch of an exchange runs. -/
def Engine.Still (e : Engine) : Prop :=
  e.leadTimer = none ∧ e.holdTimer = none ∧ e.replyTimer = none ∧ e.gapWatch = false

/-- The engine states of an exchange: each holds a slot. -/
def EngineState.busy (x : EngineState) : Prop := x ≠ .disabled ∧ x ≠ .idle ∧ x ≠ .settle

section
variable {e : Engine}

/-- An engine that is not DISABLED is one of a line that is ON or DRAINING. -/
theorem EngineFits.sound (h : EngineFits e) (hstate : e.state ≠ .disabled) : e.Sound := by
  obtain ⟨⟨hdisabled, -, hdrain⟩, ⟨hphase, hresynced, -⟩, -⟩ := h
  refine ⟨?_, hdrain, hphase, hresynced⟩
  cases hmode : e.mode <;> simp_all

theorem EngineFits.timers (h : EngineFits e) : TimersFit e := h.2.2

theorem EngineFits.state_of_off (h : EngineFits e) (hoff : e.mode = .off) : e.state = .disabled := by
  obtain ⟨⟨hdisabled, -⟩, -⟩ := h
  exact hdisabled.1 (.inr hoff)

theorem EngineFits.state_of_on (h : EngineFits e) (hon : e.mode = .on) : e.state ≠ .disabled := by
  obtain ⟨⟨hdisabled, -⟩, -⟩ := h
  exact fun hstate => by simpa [hon] using hdisabled.2 hstate

theorem EngineFits.active_of_draining (h : EngineFits e) (hmode : e.mode = .draining) : e.active.isSome = true := by
  obtain ⟨⟨-, hdraining, -⟩, -⟩ := h
  exact (hdraining hmode).2

theorem EngineFits.active_none (h : EngineFits e) (hstate : e.state = .disabled ∨ e.state = .idle) : e.active = none := by
  obtain ⟨-, ⟨-, -, hnone, -⟩, -⟩ := h
  exact hnone hstate

/-- A broadcast awaits no reply (R73). -/
theorem EngineFits.phase_of_wait (h : EngineFits e) (hstate : e.state = .await ∨ e.state = .receive) :
    e.phase ≠ some .broadcast := by
  obtain ⟨-, ⟨-, -, -, -, -, hphase⟩, -⟩ := h
  exact hphase hstate

theorem EngineFits.active_isSome (h : EngineFits e) (hstate : e.state.busy) : e.active.isSome = true := by
  obtain ⟨-, ⟨-, -, -, -, hholds, -⟩, -⟩ := h
  obtain ⟨hdisabled, hidle, hsettle⟩ := hstate
  refine hholds ?_
  cases hs : e.state <;> simp_all

/-- In an exchange a sound engine needs its slot, a phase that fits, and its timers. -/
theorem Engine.Sound.fits_busy (h : e.Sound) (hactive : e.active.isSome = true) (hstate : e.state.busy)
    (hphase : e.state = .await ∨ e.state = .receive → e.phase ≠ some .broadcast) (htimers : TimersFit e) : EngineFits e := by
  obtain ⟨hmode, hdrain, hslot, hresynced⟩ := h
  obtain ⟨hdisabled, hidle, hsettle⟩ := hstate
  refine ⟨⟨?_, fun _ => ⟨hidle, hactive⟩, hdrain⟩, ⟨hslot, hresynced, ?_, ?_, fun _ => hactive, hphase⟩, htimers⟩
  · exact iff_of_false (by obtain hm | hm := hmode <;> simp [hm]) hdisabled
  · exact fun hs => (hs.elim hdisabled hidle).elim
  · exact fun hs => absurd hs hsettle

/-- In SETTLE a sound engine holds a slot after a good RESYNC_ACK alone (R80), and one that drains holds a slot (R61). -/
theorem Engine.Sound.fits_settle (h : e.Sound) (hstate : e.state = .settle)
    (hheld : e.active.isSome = true → e.resynced = true) (hdraining : e.mode = .draining → e.active.isSome = true)
    (htimers : TimersFit e) : EngineFits e := by
  obtain ⟨hmode, hdrain, hslot, hresynced⟩ := h
  refine ⟨⟨?_, fun hm => ⟨by simp [hstate], hdraining hm⟩, hdrain⟩, ⟨hslot, hresynced, ?_, fun _ => hheld, ?_, ?_⟩, htimers⟩
  · exact iff_of_false (by obtain hm | hm := hmode <;> simp [hm]) (by simp [hstate])
  all_goals simp [hstate]

theorem Engine.Sound.fits_idle (h : e.Sound) (hstate : e.state = .idle) (hon : e.mode = .on) (hnone : e.active = none)
    (htimers : TimersFit e) : EngineFits e := by
  obtain ⟨-, hdrain, hslot, hresynced⟩ := h
  refine ⟨⟨?_, ?_, hdrain⟩, ⟨hslot, hresynced, fun _ => hnone, ?_, ?_, ?_⟩, htimers⟩
  · exact iff_of_false (by simp [hon]) (by simp [hstate])
  · simp [hon]
  all_goals simp [hstate]

/-- Outside the four states with a timer of an exchange none runs. -/
theorem EngineFits.still (h : EngineFits e) (hguard : e.state ≠ .guard) (hturnaround : e.state ≠ .turnaround)
    (hawait : e.state ≠ .await) (hreceive : e.state ≠ .receive) : e.Still := by
  obtain ⟨-, -, hlead, hhold, hreply, -, hgap⟩ := h
  exact ⟨by simpa [hguard] using hlead, by simpa [hturnaround] using hhold, by simpa [hawait] using hreply,
    by simpa [hreceive] using hgap⟩

theorem EngineFits.stuckTimer_none (h : EngineFits e) (hstate : e.state ≠ .settle) : e.stuckTimer = none := by
  obtain ⟨-, -, -, -, -, hstuck, -⟩ := h
  simpa [hstate] using hstuck

/-- The gap watch may run and stop in RECEIVE (R77). -/
theorem EngineFits.setGapWatch (h : EngineFits e) (hstate : e.state = .receive) (watch : Bool) :
    EngineFits { e with gapWatch := watch } := by
  obtain ⟨hmode, hhold, hlead, hturn, hreply, hstuck, -⟩ := h
  exact ⟨hmode, hhold, hlead, hturn, hreply, hstuck, fun _ => hstate⟩

/-! ### Leaving and entering SETTLE (R61, R82) -/

theorem Engine.Sound.release (h : e.Sound) : e.release.Sound := by
  obtain ⟨hmode, hdrain, -, -⟩ := h
  exact ⟨hmode, hdrain, rfl, nofun⟩

/-- A line becomes OFF once its engine holds no slot (R59, R61). -/
theorem Engine.Sound.toOff (h : e.Sound) (hnone : e.active = none) : EngineFits e.toOff := by
  obtain ⟨-, -, hslot, hresynced⟩ := h
  have hphase : e.phase = none := by simpa [hnone] using hslot
  have hclear : e.resynced = false := by simpa [hphase] using hresynced
  simp [EngineFits, ModeFits, HoldFits, TimersFit, Engine.toOff, hnone, hphase, hclear]

theorem EngineFits.leaveSettle (h : EngineFits e) (hstate : e.state = .settle) : EngineFits e.leaveSettle := by
  have hsound := h.sound (by simp [hstate])
  obtain ⟨hlead, hhold, hreply, hgap⟩ := h.still (by simp [hstate]) (by simp [hstate]) (by simp [hstate]) (by simp [hstate])
  unfold Engine.leaveSettle
  split
  · next n hn =>
    refine Engine.Sound.fits_busy (e := e.enterGuard) hsound ?_ ?_ nofun ?_
    · simp [Engine.enterGuard, hn]
    · exact ⟨nofun, nofun, nofun⟩
    · simp [TimersFit, Engine.enterGuard, hhold, hreply, hgap]
  · next hnone =>
    split
    · next hon =>
      refine Engine.Sound.fits_idle (e := { e with state := .idle, stuckTimer := none }) hsound rfl hon hnone ?_
      simp [TimersFit, hlead, hhold, hreply, hgap]
    · exact h

/-- An engine whose exchange is over enters SETTLE, holding no slot or the slot of a good RESYNC_ACK. -/
theorem Engine.Sound.settle (h : e.Sound) (hstill : e.Still) (hheld : e.active.isSome = true → e.resynced = true)
    (quiet : Nat) : EngineFits (e.settle quiet) := by
  obtain ⟨hlead, hhold, hreply, hgap⟩ := hstill
  unfold Engine.settle
  dsimp only
  split
  · next hoff => exact Engine.Sound.toOff (e := { e with state := .settle, .. }) h hoff.2
  · next hstays =>
    have hsettling : EngineFits { e with state := .settle, stuckTimer := some stuckLimit, stuckRaised := false } := by
      refine Engine.Sound.fits_settle (e := { e with state := .settle, stuckTimer := some stuckLimit, stuckRaised := false }) h rfl hheld (fun hm => ?_) ?_
      · exact Option.isSome_iff_ne_none.2 fun hnone => hstays ⟨hm, hnone⟩
      · simp [TimersFit, hlead, hhold, hreply, hgap]
    split
    · exact hsettling.leaveSettle rfl
    · exact hsettling

/-! ### Ends of an exchange -/

/-- In GUARD the lead timer alone runs. -/
theorem EngineFits.still_of_guard (h : EngineFits e) (hstate : e.state = .guard) :
    Engine.Still { e with leadTimer := none } := by
  obtain ⟨-, -, -, hhold, hreply, -, hgap⟩ := h
  exact ⟨rfl, by simpa [hstate] using hhold, by simpa [hstate] using hreply, by simpa [hstate] using hgap⟩

/-- In TURNAROUND the hold timer alone runs. -/
theorem EngineFits.still_of_turnaround (h : EngineFits e) (hstate : e.state = .turnaround) :
    Engine.Still { e with holdTimer := none } := by
  obtain ⟨-, -, hlead, -, hreply, -, hgap⟩ := h
  exact ⟨by simpa [hstate] using hlead, rfl, by simpa [hstate] using hreply, by simpa [hstate] using hgap⟩

/-- Outside GUARD and TURNAROUND only the timer and the watch of a wait may run. -/
theorem EngineFits.still_stopWaiting (h : EngineFits e) (hguard : e.state ≠ .guard) (hturnaround : e.state ≠ .turnaround) :
    e.stopWaiting.Still := by
  obtain ⟨-, -, hlead, hhold, -⟩ := h
  exact ⟨by simpa [hguard, Engine.stopWaiting] using hlead, by simpa [hturnaround, Engine.stopWaiting] using hhold, rfl, rfl⟩

end

end Sys2Proof.Machine
end

/-! ### What leaves the engines as they were, but for their queues -/

section
namespace Sys2Proof.Machine

/-- The engines of a state are those of the one before it, but for their pending queues. -/
def SameEngines (o s : State) : Prop := ∀ l : Line, ∃ q : List SlotNo, s.engine l = { o.engine l with queue := q }

theorem SameEngines.refl (s : State) : SameEngines s s := fun l => ⟨(s.engine l).queue, rfl⟩

theorem SameEngines.ite {c : Prop} [Decidable c] {o s t : State} (hs : SameEngines o s) (ht : SameEngines o t) :
    SameEngines o (if c then s else t) := by
  split
  · exact hs
  · exact ht

theorem State.putChainByte_engines (s : State) (chain : List BlockNo) (i : Nat) (b : Byte) :
    (s.putChainByte chain i b).engines = s.engines := by rw [State.putChainByte_eq]

section
variable {o s t : State} (h : SameEngines o s)
include h

theorem SameEngines.frame (ht : t.engines = s.engines) : SameEngines o t := by
  intro l
  unfold State.engine
  rw [ht]
  exact h l

theorem SameEngines.raiseDmaEnd : SameEngines o s.raiseDmaEnd := h.frame rfl

theorem SameEngines.setQueue (l : Line) (q : List SlotNo) :
    SameEngines o (s.setEngine l { s.engine l with queue := q }) := by
  refine State.forall_setEngine (fun k e => ∃ q, e = { o.engine k with queue := q }) ?_ fun k _ => h k
  obtain ⟨q', hq'⟩ := h l
  exact ⟨q, by rw [hq']⟩

theorem SameEngines.joinTail (n : SlotNo) : SameEngines o (s.joinTail n) :=
  (h.frame (t := s.setSlot n _) rfl).setQueue _ _

theorem SameEngines.joinHead (n : SlotNo) : SameEngines o (s.joinHead n) :=
  (h.frame (t := s.setSlot n _) rfl).setQueue _ _

theorem SameEngines.updateStation (l : Line) (a : StationAddr) (f : Station → Station) :
    SameEngines o (s.updateStation l a f) := h.frame (by rw [State.updateStation_frame])

theorem SameEngines.complete (n : SlotNo) (oc : TransactionOutcome) : SameEngines o (s.complete n oc) :=
  h.frame (by rw [State.complete_frame])

theorem SameEngines.completeQueue (l : Line) (oc : TransactionOutcome) : SameEngines o (s.completeQueue l oc) :=
  (h.setQueue l []).frame (by rw [State.completeQueue, State.completeAll_frame]; rfl)

theorem SameEngines.retry (n : SlotNo) (f : Failure) : SameEngines o (s.retry n f) := by
  have hfailed : SameEngines o (s.modSlot n fun x => { x with lastFailure := some f }) := h.frame rfl
  unfold State.retry
  dsimp only
  split
  · split
    · exact hfailed.joinTail n
    · exact hfailed.joinHead n
  · exact hfailed.complete n _

/-! ### The Data Port and the readout -/

theorem SameEngines.intakeComplete : SameEngines o s.intakeComplete := by
  unfold State.intakeComplete
  split
  · exact h.frame rfl
  · exact (h.joinTail _).frame rfl

theorem SameEngines.intakeAbandoned (code : ResponseCode) : SameEngines o (s.intakeAbandoned code) := by
  unfold State.intakeAbandoned
  split <;> exact h.frame rfl

theorem SameEngines.moveIn (b : Byte) (dma tc : Bool) : SameEngines o (s.moveIn b dma tc) := by
  have htaken : SameEngines o ((s.putChainByte s.loadingChain s.data.moved b).modData fun d => d.movedByte dma) :=
    h.frame (State.putChainByte_engines ..)
  have hraised := htaken.raiseDmaEnd
  unfold State.moveIn
  dsimp only
  split
  · split
    · exact hraised.intakeComplete
    · exact hraised.intakeAbandoned _
  · split
    · split
      · exact hraised.intakeComplete
      · exact htaken.intakeComplete
    · exact htaken

theorem SameEngines.dataIn (b : Byte) (dma tc : Bool) : SameEngines o (s.dataIn b dma tc) := by
  unfold State.dataIn
  split
  · exact h.moveIn b dma tc
  · exact h.frame rfl

theorem SameEngines.retireHead : SameEngines o s.retireHead := h.frame (by rw [State.retireHead_frame])

theorem SameEngines.outflowComplete : SameEngines o s.outflowComplete := h.retireHead.frame rfl

theorem SameEngines.moveOut (dma tc : Bool) : SameEngines o (s.moveOut dma tc) := by
  have hdelivered : SameEngines o (s.modData fun d => d.movedByte dma) := h.frame rfl
  have hraised := hdelivered.raiseDmaEnd
  unfold State.moveOut
  dsimp only
  split
  · split
    · exact hraised.outflowComplete
    · exact hraised.frame rfl
  · split
    · split
      · exact hraised.outflowComplete
      · exact hdelivered.outflowComplete
    · exact hdelivered

theorem SameEngines.dataOut (dma tc : Bool) : SameEngines o (s.dataOut dma tc).2 := by
  unfold State.dataOut
  split
  · exact h.moveOut dma tc
  · exact h

theorem SameEngines.readResult : SameEngines o s.readResult.2 := by
  unfold State.readResult
  split
  · exact h
  · dsimp only
    split
    · dsimp only
      split
      · unfold State.headerEnd
        split
        · exact h.retireHead
        · exact h.frame rfl
      · exact h.frame rfl
    · exact h

theorem SameEngines.discard : SameEngines o s.discard := h.frame (by rw [State.discard_frame])

theorem SameEngines.abort : SameEngines o s.abort := h.frame (by rw [State.abort_frame])

theorem SameEngines.readResponse : SameEngines o s.readResponse.2 := by
  unfold State.readResponse
  split
  · exact h.frame rfl
  · exact h

theorem SameEngines.readCause : SameEngines o s.readCause.2 := by
  unfold State.readCause
  split
  · exact h
  · exact h.frame rfl

/-! ### The Poll Scheduler -/

theorem SameEngines.startCycle (l : Line) : SameEngines o (s.startCycle l) := by
  unfold State.startCycle
  dsimp only
  split
  · exact h.frame rfl
  · split <;> exact h.frame rfl

theorem SameEngines.cycleDue (l : Line) : SameEngines o (s.cycleDue l) := by
  unfold State.cycleDue
  split
  · exact h.startCycle l
  · exact h

theorem SameEngines.createPoll (l : Line) (e : EntryNo) (d : PollDef) (n : SlotNo) :
    SameEngines o (s.createPoll l e d n) := by
  have hwritten : SameEngines o ((s.create n (pollSlot l e d)).putChainByte
      ((s.create n (pollSlot l e d)).slot n).requestChain 0 d.item) := h.frame (State.putChainByte_engines ..)
  exact (hwritten.joinTail n).frame rfl

theorem SameEngines.claim (l : Line) : SameEngines o (s.claim l) := by
  unfold State.claim
  split
  · next e rest _ _ =>
    have hclaimed : SameEngines o (s.modSched l fun p => { p with due := rest }) := h.frame rfl
    dsimp only
    split
    · exact hclaimed
    · split
      · split
        · exact hclaimed.createPoll l e _ _
        · exact h.frame rfl
      · exact h.frame rfl
  · exact h

theorem SameEngines.submitGranted (p : SubmitParams) (n : SlotNo) : SameEngines o (s.submitGranted p n) := by
  have hmade : SameEngines o (s.create n p.slot) := h.frame rfl
  unfold State.submitGranted
  dsimp only
  split
  · exact (hmade.joinTail n).frame rfl
  · exact hmade.frame rfl

end

theorem State.completeActive_engine (s : State) (l : Line) (n : SlotNo) (o : TransactionOutcome) :
    (s.completeActive l n o).engine l = (s.engine l).release := by simp [State.completeActive]

theorem State.completeActive_engine_ne (s : State) {l k : Line} (n : SlotNo) (o : TransactionOutcome) (hk : l ≠ k) :
    (s.completeActive l n o).engine k = s.engine k := by
  rw [State.completeActive, State.complete_engine, State.modEngine_eq, State.setEngine_engine_ne _ _ _ hk]

/-- Queues are no part of what chapter 4 allows. -/
theorem EnginesFit.same {s t : State} (h : EnginesFit s) (ht : SameEngines s t) : EnginesFit t := by
  intro l
  obtain ⟨q, hq⟩ := ht l
  rw [hq]
  exact h l

end Sys2Proof.Machine
end

/-! ### What the engines' happenings leave (R61, R67 to R86) -/

section
namespace Sys2Proof.Machine

/-- The exchange of one engine is over, so that it may enter SETTLE; every other engine is in a state that chapter 4
allows. -/
structure ExchangeOver (l : Line) (s : State) : Prop where
  sound : (s.engine l).Sound
  still : (s.engine l).Still
  others : ∀ k, l ≠ k → EngineFits (s.engine k)

section
variable {l : Line} {s t : State}

theorem ExchangeOver.same (h : ExchangeOver l s) (ht : SameEngines s t) : ExchangeOver l t := by
  obtain ⟨q, hq⟩ := ht l
  refine ⟨hq ▸ h.sound, hq ▸ h.still, fun k hk => ?_⟩
  obtain ⟨q, hq⟩ := ht k
  rw [hq]
  exact h.others k hk

theorem ExchangeOver.setEngine (h : ExchangeOver l s) {e : Engine} (hsound : e.Sound) (hstill : e.Still) :
    ExchangeOver l (s.setEngine l e) where
  sound := by rwa [State.setEngine_engine_same]
  still := by rwa [State.setEngine_engine_same]
  others k hk := by
    rw [State.setEngine_engine_ne _ _ _ hk]
    exact h.others k hk

theorem ExchangeOver.release (h : ExchangeOver l s) : ExchangeOver l (s.modEngine l Engine.release) :=
  h.setEngine h.sound.release h.still

theorem ExchangeOver.settle (h : ExchangeOver l s)
    (hheld : (s.engine l).active.isSome = true → (s.engine l).resynced = true) : EnginesFit (s.settle l) :=
  State.forall_setEngine (fun _ e => EngineFits e) (h.sound.settle h.still hheld _) h.others

/-- An engine that holds no slot any more enters SETTLE. -/
theorem ExchangeOver.settleReleased (h : ExchangeOver l s) (ht : SameEngines (s.modEngine l Engine.release) t) :
    EnginesFit (t.settle l) := by
  refine (h.release.same ht).settle ?_
  obtain ⟨q, hq⟩ := ht l
  rw [hq, State.modEngine_eq, State.setEngine_engine_same]
  exact nofun

theorem ExchangeOver.finishActive (h : ExchangeOver l s) (n : SlotNo) (o : TransactionOutcome) :
    EnginesFit (s.finishActive l n o) :=
  h.settleReleased ((SameEngines.refl _).complete n o)

/-- Whatever the verdict, the slot leaves the engine or is kept resynced (R79, R80). -/
theorem ExchangeOver.actOnVerdict (h : ExchangeOver l s) (hactive : (s.engine l).active.isSome = true) (n : SlotNo)
    (v : Verdict) : EnginesFit (s.actOnVerdict l n v) := by
  have hstored : ExchangeOver l (s.modSlot n fun x => { x with replyLength := some (s.link l).stored }) :=
    h.same ((SameEngines.refl s).frame rfl)
  cases v with
  | goodReply => exact hstored.finishActive n _
  | replyTooLong => exact hstored.finishActive n _
  | goodAck =>
    obtain ⟨hmode, hdrain, -, -⟩ := h.sound
    have hresynced : ExchangeOver l (s.modEngine l Engine.resyncDone) :=
      h.setEngine ⟨hmode, hdrain, hactive, fun _ => rfl⟩ h.still
    exact hresynced.settle (by simp [Engine.resyncDone])
  | failed f => exact h.settleReleased ((SameEngines.refl _).retry n f)

end

section
variable {s : State} (h : EnginesFit s)
include h

theorem EnginesFit.setEngine (l : Line) {e : Engine} (he : EngineFits e) : EnginesFit (s.setEngine l e) :=
  State.forall_setEngine (fun _ e => EngineFits e) he fun k _ => h k

theorem EnginesFit.setLink (l : Line) (k : Link) : EnginesFit (s.setLink l k) := h

theorem EnginesFit.exchangeOver {l : Line} {e : Engine} (hsound : e.Sound) (hstill : e.Still) :
    ExchangeOver l (s.setEngine l e) where
  sound := by rwa [State.setEngine_engine_same]
  still := by rwa [State.setEngine_engine_same]
  others k hk := by
    rw [State.setEngine_engine_ne _ _ _ hk]
    exact h k

/-- A verdict is reached from TRANSMIT, AWAIT or RECEIVE (R72, R75, R77, R78). -/
theorem EnginesFit.verdict {l : Line} (hstate : (s.engine l).state = .transmit ∨ (s.engine l).state = .await ∨
    (s.engine l).state = .receive) (v : Verdict) : EnginesFit (s.verdict l v) := by
  have hnot : ∀ x, x ≠ .transmit → x ≠ .await → x ≠ .receive → (s.engine l).state ≠ x := by
    rintro x htransmit hawait hreceive rfl
    exact hstate.elim htransmit fun hwaits => hwaits.elim hawait hreceive
  have hover : ExchangeOver l (s.modEngine l Engine.stopWaiting) :=
    h.exchangeOver ((h l).sound (hnot _ nofun nofun nofun))
      ((h l).still_stopWaiting (hnot _ nofun nofun nofun) (hnot _ nofun nofun nofun))
  unfold State.verdict
  split
  · exact h
  · next n hn =>
    have hactive : ((s.modEngine l Engine.stopWaiting).engine l).active.isSome = true := by simp [Engine.stopWaiting, hn]
    dsimp only
    split
    · exact hover.finishActive n _
    · split
      · exact hover.actOnVerdict hactive n v
      · exact (hover.same ((SameEngines.refl _).updateStation l _ _)).actOnVerdict
          (by rwa [State.updateStation_engine]) n v

/-! ### Taking and sending -/

theorem EnginesFit.takeHead (l : Line) : EnginesFit (s.takeHead l) := by
  unfold State.takeHead
  dsimp only
  split
  · next hidle =>
    split
    · exact h
    · next n rest hqueue =>
      obtain ⟨hmode, hdrain, -, -⟩ := (h l).sound (by simp [hidle.1])
      obtain ⟨-, hhold, hreply, hgap⟩ :=
        (h l).still (by simp [hidle.1]) (by simp [hidle.1]) (by simp [hidle.1]) (by simp [hidle.1])
      refine EnginesFit.setEngine (s := s.modSlot n _) h l (Engine.Sound.fits_busy ⟨hmode, hdrain, rfl, nofun⟩ rfl
        ⟨nofun, nofun, nofun⟩ nofun ?_)
      simp [TimersFit, Engine.enterGuard, hhold, hreply, hgap]
  · exact h

theorem EnginesFit.leadExpired (l : Line) : EnginesFit (s.leadExpired l) := by
  unfold State.leadExpired
  dsimp only
  split
  · next hguard =>
    obtain ⟨hstate, -⟩ := hguard
    obtain ⟨-, hhold, hreply, hgap⟩ := (h l).still_of_guard hstate
    have hstuck := (h l).stuckTimer_none (by simp [hstate])
    have hsending : EngineFits { s.engine l with state := .transmit, leadTimer := none } := by
      refine Engine.Sound.fits_busy (e := { s.engine l with state := .transmit, leadTimer := none })
        ((h l).sound (by simp [hstate])) ((h l).active_isSome ?_) ⟨nofun, nofun, nofun⟩ nofun ?_
      · simp [EngineState.busy, hstate]
      · simp_all [TimersFit]
    split
    · split
      · exact h.setEngine l hsending
      · exact h.setEngine l hsending
    · exact h
  · exact h

theorem EnginesFit.guardSpace (l : Line) : EnginesFit (s.guardSpace l) := by
  have hheard : EnginesFit (s.modLink l fun k => { k with quietTime := 0 }) := h
  unfold State.guardSpace
  dsimp only
  split
  · next n hstate hn =>
    have hover : ExchangeOver l ((s.modLink l fun k => { k with quietTime := 0 }).modEngine l fun y =>
        { y with leadTimer := none }) :=
      hheard.exchangeOver ((h l).sound (by simp [hstate])) ((h l).still_of_guard hstate)
    split
    · next hresynced => exact hover.settle fun _ => by simpa using hresynced
    · exact hover.settleReleased ((SameEngines.refl _).joinHead n)
  · split
    · exact h
    · exact hheard

theorem EnginesFit.holdEnded {l : Line} (hstate : (s.engine l).state = .turnaround) : EnginesFit (s.holdEnded l) := by
  have hsound := (h l).sound (by simp [hstate])
  have hstill := (h l).still_of_turnaround hstate
  have hover : ExchangeOver l (s.modEngine l fun y => { y with holdTimer := none }) := h.exchangeOver hsound hstill
  unfold State.holdEnded
  split
  · exact h
  · next n hn =>
    dsimp only
    split
    · exact hover.finishActive n _
    · split
      · exact hover.finishActive n _
      · next hphase =>
        rw [State.modEngine_eq, State.modEngine_eq, State.setEngine_setEngine, State.setEngine_engine_same]
        refine h.setEngine l (Engine.Sound.fits_busy hsound (by simp [hn]) ⟨nofun, nofun, nofun⟩ (fun _ => hphase) ?_)
        obtain ⟨hlead, -, -, hgap⟩ := hstill
        have hstuck := (h l).stuckTimer_none (by simp [hstate])
        simp_all [TimersFit]

theorem EnginesFit.holdExpired (l : Line) : EnginesFit (s.holdExpired l) := by
  unfold State.holdExpired
  split
  · next hturnaround => exact h.holdEnded hturnaround.1
  · exact h

theorem EnginesFit.frameSent {l : Line} (hstate : (s.engine l).state = .transmit) (n : SlotNo) (p : Phase) :
    EnginesFit (s.frameSent l n p) := by
  obtain ⟨hlead, hhold, hreply, hgap⟩ :=
    (h l).still (by simp [hstate]) (by simp [hstate]) (by simp [hstate]) (by simp [hstate])
  have hstuck := (h l).stuckTimer_none (by simp [hstate])
  have hactive := (h l).active_isSome (by simp [EngineState.busy, hstate])
  have hheld : EngineFits
      { s.engine l with state := .turnaround, holdTimer := some (s.engine l).config.turnaroundHold } := by
    refine Engine.Sound.fits_busy ((h l).sound (by simp [hstate])) hactive ⟨nofun, nofun, nofun⟩ nofun ?_
    simp [TimersFit, hlead, hreply, hgap, hstuck]
  have hsent : EnginesFit (if p = .request then
      (s.modLink l Link.frameOver).modSlot n fun x => { x with requestSent := true } else s.modLink l Link.frameOver) := by
    split <;> exact h
  have hturned : EnginesFit (State.modEngine (if p = .request then
      (s.modLink l Link.frameOver).modSlot n fun x => { x with requestSent := true } else s.modLink l Link.frameOver) l
      fun y => { y with state := .turnaround, holdTimer := some (s.engine l).config.turnaroundHold }) := by
    refine hsent.setEngine l ?_
    split <;> exact hheld
  unfold State.frameSent
  dsimp only
  split
  · exact hturned.holdEnded (by simp)
  · exact hturned

theorem EnginesFit.characterEnded (l : Line) (readBack : BitVec 11) : EnginesFit (s.characterEnded l readBack) := by
  have hheard : EnginesFit (s.modLink l fun k => k.heardBack readBack) := h
  unfold State.characterEnded
  dsimp only
  split
  · next n p data marker _ _ hstate hn hp hsending =>
    split
    · split
      · exact h
      · exact hheard.frameSent hstate n p
    · have hover : EnginesFit ((s.modLink l fun k => k.heardBack readBack).modLink l Link.frameOver) := h
      exact hover.verdict (.inl hstate) _
  · exact h

/-! ### Waiting, receiving and settling -/

theorem EnginesFit.replyExpired (l : Line) : EnginesFit (s.replyExpired l) := by
  unfold State.replyExpired
  split
  · next hawait => exact h.verdict (.inr (.inl hawait.1)) _
  · exact h

theorem EnginesFit.startBit (l : Line) : EnginesFit (s.startBit l) := by
  unfold State.startBit
  dsimp only
  split
  · split
    · next hstate =>
      have hactive := (h l).active_isSome (by simp [EngineState.busy, hstate])
      have hphase : (s.engine l).phase ≠ some .broadcast := (h l).phase_of_wait (.inl hstate)
      have htimers := (h l).timers
      refine EnginesFit.setEngine (s := s.setLink l _) h l (Engine.Sound.fits_busy ((h l).sound (by simp [hstate])) hactive
        ⟨nofun, nofun, nofun⟩ (fun _ => hphase) ?_)
      simp_all [TimersFit]
    · next hstate => exact EnginesFit.setEngine (s := s.setLink l _) h l ((h l).setGapWatch hstate _)
    · exact h
  · exact h

theorem EnginesFit.tookCharacter {l : Line} (hstate : (s.engine l).state = .receive) (k : Link) :
    EnginesFit (s.tookCharacter l k) :=
  EnginesFit.setEngine (s := s.setLink l _) h l ((h l).setGapWatch hstate _)

theorem EnginesFit.takeCharacter {l : Line} (hstate : (s.engine l).state = .receive) (x : Slot) (p : Phase) (b : Byte) :
    EnginesFit (s.takeCharacter l x p b) := by
  unfold State.takeCharacter
  dsimp only
  split
  · exact h.tookCharacter hstate _
  split
  · exact h.tookCharacter hstate _
  split
  · exact h.tookCharacter hstate _
  split
  · split
    · have hstored : EnginesFit (s.putChainByte x.replyChain (s.link l).stored b) :=
        h.same ((SameEngines.refl s).frame (State.putChainByte_engines ..))
      exact hstored.tookCharacter (by rwa [State.engine, State.putChainByte_engines]) _
    · exact h.tookCharacter hstate _
  split
  · exact h.tookCharacter hstate _
  · exact EnginesFit.verdict (s := s.setLink l _) h (.inr (.inr hstate)) _

theorem EnginesFit.characterDelivered (l : Line) (samples : BitVec 10) : EnginesFit (s.characterDelivered l samples) := by
  unfold State.characterDelivered
  dsimp only
  split
  · split
    · next hstate _ _ =>
      split
      · exact EnginesFit.verdict (s := s.setLink l _) h (.inr (.inr hstate)) _
      · exact EnginesFit.takeCharacter (s := s.setLink l _) h hstate _ _ _
    · exact h
  · exact h

theorem EnginesFit.gapExpired (l : Line) : EnginesFit (s.gapExpired l) := by
  unfold State.gapExpired
  dsimp only
  split
  · next hreceive => exact EnginesFit.verdict (s := s.setLink l _) h (.inr (.inr hreceive.1)) _
  · exact h

theorem EnginesFit.settled (l : Line) : EnginesFit (s.settled l) := by
  unfold State.settled
  dsimp only
  split
  · exact h
  · split
    · next hstate => exact EnginesFit.setEngine (s := s.setLink l _) h l ((h l).leaveSettle hstate)
    · exact h

theorem EnginesFit.stuckExpired (l : Line) : EnginesFit (s.stuckExpired l) := by
  unfold State.stuckExpired
  dsimp only
  split
  · next hsettle =>
    obtain ⟨hmode, hhold, hlead, hturn, hreply, -, hgap⟩ := h l
    have hagain : EngineFits { s.engine l with stuckRaised := true, stuckTimer := some stuckLimit } :=
      ⟨hmode, hhold, hlead, hturn, hreply, iff_of_true rfl hsettle.1, hgap⟩
    split
    · exact h.setEngine l hagain
    · exact EnginesFit.setEngine (s := s.raiseStuck l) h l hagain
  · exact h

theorem EnginesFit.reArm (l : Line) : EnginesFit (s.reArm l) := by
  unfold State.reArm
  split <;> exact h

/-! ### Cancelling the active slot -/

theorem EnginesFit.engineCancel (l : Line) (n : SlotNo) (o : TransactionOutcome) : EnginesFit (s.engineCancel l n o) := by
  have hwaits : (s.engine l).state = .await ∨ (s.engine l).state = .receive →
      EnginesFit ((s.modEngine l Engine.stopWaiting).finishActive l n o) := by
    intro hstate
    have hover : ExchangeOver l (s.modEngine l Engine.stopWaiting) := by
      obtain hstate | hstate := hstate <;>
        exact h.exchangeOver ((h l).sound (by simp [hstate])) ((h l).still_stopWaiting (by simp [hstate]) (by simp [hstate]))
    exact hover.finishActive n o
  unfold State.engineCancel
  split
  · next hstate =>
    have hover : ExchangeOver l (s.modEngine l fun e => { e with leadTimer := none }) :=
      h.exchangeOver ((h l).sound (by simp [hstate])) ((h l).still_of_guard hstate)
    exact hover.finishActive n o
  · next hstate =>
    have hsound := ((h l).sound (by simp [hstate])).release
    have hengine : (s.completeActive l n o).engine l = (s.engine l).release := s.completeActive_engine l n o
    have hother : ∀ k, l ≠ k → EngineFits ((s.completeActive l n o).engine k) := by
      intro k hk
      rw [State.completeActive_engine_ne _ _ _ hk]
      exact h k
    refine State.forall_setEngine (fun _ e => EngineFits e) ?_ hother
    rw [hengine]
    dsimp only
    split
    · exact hsound.toOff rfl
    · next hstays => exact hsound.fits_settle hstate nofun (fun hm => absurd hm hstays) (h l).timers
  · next hstate => exact hwaits (.inl hstate)
  · next hstate => exact hwaits (.inr hstate)
  · exact h

theorem EnginesFit.cancelActive (l : Line) (o : PendingOutcome) : EnginesFit (s.cancelActive l o) := by
  unfold State.cancelActive
  split
  · exact h
  · next n _ =>
    split
    · exact h
    · exact EnginesFit.engineCancel (s := s.setSlot n _) h l n _

end

end Sys2Proof.Machine
end

/-! ### What the commands leave of the engines (sections 8.2 and 8.3) -/

section
namespace Sys2Proof.Machine

/-- An engine after a reset of its line (R63). -/
theorem Engine.cleared_fits (e : Engine) : EngineFits e.cleared := by
  unfold Engine.cleared
  split <;> simp [EngineFits, ModeFits, HoldFits, TimersFit, Engine.reset]

/-- A line that is OFF is turned ON into SETTLE (R58). -/
theorem EngineFits.turnOn {e : Engine} (h : EngineFits e) (hoff : e.mode = .off) (quiet : Nat) :
    EngineFits (e.turnOn quiet) := by
  have hdisabled := h.state_of_off hoff
  have hnone := h.active_none (.inl hdisabled)
  have hstill := h.still (by simp [hdisabled]) (by simp [hdisabled]) (by simp [hdisabled]) (by simp [hdisabled])
  obtain ⟨⟨-, -, hdrain⟩, ⟨hslot, hresynced, -⟩, -⟩ := h
  have hsound : Engine.Sound { e with mode := .on } := ⟨.inl rfl, by simpa [hoff] using hdrain, hslot, hresynced⟩
  exact hsound.settle hstill (by simp [hnone]) quiet

/-- A line drains only while its engine holds a slot (R59). -/
theorem EngineFits.drain {e : Engine} (h : EngineFits e) (hactive : e.active.isSome = true) (k : DrainKind) :
    EngineFits (e.drain k) := by
  have hholds : ∀ {x : EngineState}, x = .disabled ∨ x = .idle → e.state ≠ x := by
    rintro x hx rfl
    simp [h.active_none hx] at hactive
  obtain ⟨-, hslot, htimers⟩ := h
  exact ⟨⟨iff_of_false nofun (hholds (.inl rfl)), fun _ => ⟨hholds (.inr rfl), hactive⟩, iff_of_true rfl rfl⟩, hslot, htimers⟩

/-- The blocks of a line are reset with its engine (R62). -/
theorem EnginesFit.clearLine {s : State} {l : Line} (hother : ∀ k, l ≠ k → EngineFits (s.engine k)) (u : EventUnit) :
    EnginesFit { ((s.modEngine l Engine.cleared).setStationLine l StationLine.reset).modSched l Scheduler.lineReset with
      events := u } :=
  State.forall_setEngine (fun _ e => EngineFits e) (Engine.cleared_fits _) hother

section
variable {s : State} (h : EnginesFit s)
include h

theorem EnginesFit.configure (l : Line) (c : LineConfig) : EnginesFit (s.configure l c) := by
  have hset : EnginesFit (s.modEngine l fun e => { e with config := c }) := h.setEngine l (h l)
  unfold State.configure
  dsimp only
  split <;> split <;> exact hset

theorem EnginesFit.abortLine {l : Line} (hactive : (s.engine l).active.isSome = true) : EnginesFit (s.abortLine l) := by
  have hdrained : EnginesFit (s.modEngine l fun e => e.drain .abort) := h.setEngine l ((h l).drain hactive _)
  exact (hdrained.same ((SameEngines.refl _).completeQueue l _)).cancelActive l _

theorem EnginesFit.turnOff {l : Line} (hon : (s.engine l).mode = .on) (k : DrainKind) : EnginesFit (s.turnOff l k) := by
  have hhalted : EnginesFit (s.modSched l Scheduler.halt) := h
  unfold State.turnOff
  dsimp only
  have hoff (hnone : (s.engine l).active = none) : EnginesFit ((s.modSched l Scheduler.halt).modEngine l Engine.toOff) :=
    hhalted.setEngine l (((h l).sound ((h l).state_of_on hon)).toOff hnone)
  split
  · next hnone => exact hoff hnone
  · next hnone => exact (hoff hnone).same ((SameEngines.refl _).completeQueue l _)
  · next n hn => exact hhalted.setEngine l ((h l).drain (by simp [hn]) _)
  · next n hn => exact hhalted.abortLine (by simp [hn])

theorem EnginesFit.resetLine (l : Line) : EnginesFit (s.resetLine l) := by
  have hcut : SameEngines s (s.modLink l Link.cut) := (SameEngines.refl s).frame rfl
  have hended := h.same (hcut.completeQueue l .lineDown)
  have hother : ∀ k, l ≠ k → EngineFits ((((s.modLink l Link.cut).completeQueue l .lineDown).resetActive l).engine k) := by
    intro k hk
    unfold State.resetActive
    split
    · exact hended k
    · rw [State.completeActive_engine_ne _ _ _ hk]
      exact hended k
  exact .clearLine hother _

theorem EnginesFit.ifPresent {l : Line} {k : State} (hk : EnginesFit k) : EnginesFit (s.ifPresent l k) := by
  unfold State.ifPresent
  split
  · exact h
  · exact hk

theorem EnginesFit.takeSubmit (p : SubmitParams) : EnginesFit (s.takeSubmit p) := by
  refine h.ifPresent ?_
  split
  · exact h
  · split
    · exact h
    · split
      · exact h
      · exact h.same ((SameEngines.refl s).submitGranted p _)

theorem EnginesFit.takeCancel (n : SlotNo) : EnginesFit (s.takeCancel n) := by
  unfold State.takeCancel
  dsimp only
  split
  · exact h.same ((((SameEngines.refl s).setQueue _ _).complete n _).frame rfl)
  · split
    · exact h.cancelActive _ _
    · exact h
  · exact h

theorem EnginesFit.takeLineSet (l : Line) (c : LineConfig) : EnginesFit (s.takeLineSet l c) := by
  refine h.ifPresent ?_
  split
  · exact h.configure l c
  · exact h

theorem EnginesFit.takeLineOn (l : Line) : EnginesFit (s.takeLineOn l) := by
  refine h.ifPresent ?_
  split
  · next hoff => exact h.setEngine l ((h l).turnOn hoff _)
  · exact h

theorem EnginesFit.takeLineOff (l : Line) (k : DrainKind) : EnginesFit (s.takeLineOff l k) := by
  unfold State.takeLineOff
  split
  · exact h
  · exact h
  · next hon => exact h.turnOff hon k
  · next hdraining =>
    split
    · exact h.abortLine ((h l).active_of_draining hdraining)
    · exact h

theorem EnginesFit.takeRequest (r : Request) : EnginesFit (s.takeRequest r) := by
  have hsame := SameEngines.refl s
  cases r with
  | submit p => exact h.takeSubmit p
  | cancel n => exact h.takeCancel n
  | purge l => exact h.ifPresent (h.same (hsame.completeQueue l _))
  | lineSet l c => exact h.takeLineSet l c
  | lineOn l => exact h.takeLineOn l
  | lineOff l k => exact h.takeLineOff l k
  | lineReset l => exact h.ifPresent (h.resetLine l)
  | pollSet l e d =>
    refine h.ifPresent ?_
    split <;> exact h
  | pollRun l period =>
    refine h.ifPresent ?_
    split
    · have hrun : SameEngines s (s.modSched l fun p => p.runWith period) := hsame.frame rfl
      exact h.same (hrun.startCycle l)
    · exact h
  | pollHalt l => exact h.ifPresent h
  | stationSet l a act => exact h.ifPresent (h.same (hsame.updateStation l a _))
  | queryPool | querySlot | queryLine | queryStation | queryChanges | queryEntry | queueSet => exact h

theorem EnginesFit.writeCommand (b : Byte) : EnginesFit (s.writeCommand b) := by
  unfold State.writeCommand
  split
  · unfold State.takeOpcode
    split <;> exact h
  · unfold State.takeParameter
    split
    · exact h
    · have hjoined : EnginesFit { s with port := { s.port with params := s.port.params ++ [b] } } := h
      dsimp only
      split
      · exact hjoined
      · unfold State.takeCommand
        split
        · exact hjoined
        · exact hjoined.takeRequest _
  · exact h
  · exact h

end

theorem enginesFit_softReset (s : State) : EnginesFit s.softReset := by
  intro l
  have hengine : s.softReset.engine l = (s.engine l).cleared := Table.look_make ..
  rw [hengine]
  exact Engine.cleared_fits _

section
variable {s t : State} (h : EnginesFit s)
include h

theorem EnginesFit.writeControl (b : Byte) : EnginesFit (s.writeControl b) := by
  have hreset : EnginesFit (if b.getLsbD 0 then s.softReset else s) := by
    split
    · exact enginesFit_softReset s
    · exact h
  have hsame := SameEngines.refl (if b.getLsbD 0 then s.softReset else s)
  have habort := SameEngines.ite (c := b.getLsbD 1) hsame.abort hsame
  have hdiscard := SameEngines.ite (c := b.getLsbD 2) habort.discard habort
  exact hreset.same (hdiscard.frame rfl)

theorem EnginesFit.writeAt (offset : Fin 8) (b : Byte) : EnginesFit (s.writeAt offset b) := by
  unfold State.writeAt
  split
  · exact h
  · split
    · exact h.writeCommand b
    · exact h.writeControl b
    · exact h.same ((SameEngines.refl s).dataIn b _ _)
    · exact h
    · exact h

theorem EnginesFit.of_happening {f : State → State} (ht : happening f s = .next t) (hf : EnginesFit (f s)) :
    EnginesFit t := by
  cases hs : s.inReset with
  | true =>
    rw [happening_of_inReset hs] at ht
    cases ht
    exact h
  | false =>
    rw [happening_of_running hs] at ht
    cases ht
    exact hf

theorem EnginesFit.of_readHappening {f : State → Byte × State} (ht : readHappening f s = .next t)
    (hf : SameEngines s (f s).2) : EnginesFit t := by
  cases hs : s.inReset with
  | true =>
    rw [readHappening_of_inReset hs] at ht
    cases ht
    exact h
  | false =>
    rw [readHappening_of_running hs] at ht
    cases ht
    exact h.same hf

/-- Every command leaves every engine in a state that chapter 4 allows. -/
theorem EnginesFit.of_exec {c : Instr} (ht : exec c s = .next t) : EnginesFit t := by
  have hsame := SameEngines.refl s
  cases c <;> dsimp only [exec] at ht
  case hardwareReset straps =>
    cases ht
    exact enginesFit_resetWith straps
  case resetInputActive =>
    cases ht
    exact h
  case softReset => exact h.of_happening ht (enginesFit_softReset s)
  case abortCmd => exact h.of_happening ht (h.same hsame.abort)
  case discardHead => exact h.of_happening ht (h.same hsame.discard)
  case busEnable | resultDma | eventMaskWrite | tick => exact h.of_happening ht h
  case responseRead => exact h.of_readHappening ht hsame.readResponse
  case resultRead => exact h.of_readHappening ht hsame.readResult
  case dataWrite b => exact h.of_happening ht (h.same (hsame.dataIn b _ _))
  case dataRead => exact h.of_readHappening ht (hsame.dataOut _ _)
  case dmaWriteAck b tc => exact h.of_happening ht (h.same (hsame.dataIn b _ tc))
  case dmaReadAck tc => exact h.of_readHappening ht (hsame.dataOut _ tc)
  case causeRead => exact h.of_readHappening ht hsame.readCause
  case tickLowRead => exact h.of_readHappening ht (hsame.frame rfl)
  case ignoredWrite offset b =>
    unfold execIgnoredWrite at ht
    split at ht
    · cases ht
      exact h
    · exact h.of_happening ht (h.writeAt offset b)
  case cycleStart l => exact h.of_happening ht (h.same (hsame.cycleDue l))
  case pollClaim l => exact h.of_happening ht (h.same (hsame.claim l))
  case take l => exact h.of_happening ht (h.takeHead l)
  case leadTimerExpiry l => exact h.of_happening ht (h.leadExpired l)
  case guardSpaceHeard l => exact h.of_happening ht (h.guardSpace l)
  case characterSent l readBack => exact h.of_happening ht (h.characterEnded l readBack)
  case holdTimerExpiry l => exact h.of_happening ht (h.holdExpired l)
  case replyTimeout l => exact h.of_happening ht (h.replyExpired l)
  case startBitTaken l => exact h.of_happening ht (h.startBit l)
  case characterReceived l samples => exact h.of_happening ht (h.characterDelivered l samples)
  case gapLimitExpiry l => exact h.of_happening ht (h.gapExpired l)
  case settleQuiet l => exact h.of_happening ht (h.settled l)
  case stuckTimerExpiry l => exact h.of_happening ht (h.stuckExpired l)
  case receiverReArm l => exact h.of_happening ht (h.reArm l)
  case opcodeByte | parameterByte | commandWriteDropped | submit | cancel | purge | lineSet | lineOn | lineOff | lineReset |
      pollSet | pollRun | pollHalt | stationSet | queryPool | querySlot | queryLine | queryStation | queryChanges |
      queryEntry | queueSet => exact h.of_happening ht (h.writeCommand _)

end

/-- Settles O54: every command keeps the engines in states that chapter 4 allows; the step itself only takes the command from
those that wait. -/
theorem enginesStayFit : Obligations.EnginesStayFit := by
  intro s t hs ht
  unfold step at ht
  split at ht
  · cases ht
    exact hs
  · next c rest _ =>
    have hrest : EnginesFit { s with pending := rest } := hs
    exact hrest.of_exec ht

end Sys2Proof.Machine
end

/-! ### The ends of an exchange as the statements write them (R61, R68, R79, R82) -/

section
namespace Sys2Proof.Machine

theorem Engine.settle_eq (e : Engine) (quiet : Nat) : e.settle quiet = entersSettle e quiet := by
  unfold Engine.settle entersSettle
  split
  · rfl
  · by_cases hquiet : e.config.settleGap ≤ quiet
    · cases hactive : e.active <;> by_cases hon : e.mode = .on <;>
        simp [Engine.leaveSettle, Engine.enterGuard, leadTime, stuckLimit, hquiet, hon]
    · simp [hquiet, stuckLimit]

theorem State.settle_eq (s : State) (l : Line) : s.settle l = settling l s :=
  congrArg (s.setEngine l) (Engine.settle_eq _ _)

/-- Waits stopped, slot released: the two steps by which an engine lets go of its slot. -/
theorem State.release_stopWaiting (s : State) (l : Line) :
    (s.modEngine l Engine.stopWaiting).modEngine l Engine.release = released l s := by
  simp only [State.modEngine_eq, State.setEngine_setEngine, State.setEngine_engine_same]
  rfl

/-! ### Station updates -/

/-- An update reads of the engines the offline threshold alone, and writes none of them. -/
theorem State.updateStation_setEngine (s : State) (l k : Line) {e : Engine} (he : e.config = (s.engine l).config)
    (a : StationAddr) (f : Station → Station) :
    (s.setEngine l e).updateStation k a f = (s.updateStation k a f).setEngine l e := by
  have hthreshold : (s.setEngine l e).threshold k = s.threshold k := by
    unfold State.threshold
    rw [State.setEngine_engine]
    split
    · next hlk => rw [he, hlk]
    · rfl
  unfold State.updateStation
  split
  · rfl
  · rw [hthreshold]
    rfl

theorem State.setStationLine_stationLine_self (s : State) (l : Line) : s.setStationLine l (s.stationLine l) = s := by
  simp [State.setStationLine, State.stationLine]

/-- An update that leaves the record as it was leaves the Station Table as it was. -/
theorem State.updateStation_of_same {s : State} {l : Line} {a : StationAddr} {f : Station → Station}
    (hf : f (s.station l a) = s.station l a) : s.updateStation l a f = s := by
  unfold State.updateStation
  split
  · rfl
  · next i hi =>
    have hrecord : s.station l a = (s.stationLine l).records.look i := by simp [State.station, hi]
    dsimp only
    rw [hf, hrecord, Table.put_look, crossesOffline, bne_self_eq_false]
    exact s.setStationLine_stationLine_self l

/-! ### Verdicts (R79 to R81, R85, R89) -/

section
variable {s : State} {l : Line} {n : SlotNo}

/-- With cancel pending set no verdict is reached (R79, R85). -/
theorem State.verdict_of_pending (hn : (s.engine l).active = some n) {o : PendingOutcome}
    (ho : (s.slot n).cancelPending = some o) (v : Verdict) :
    s.verdict l v = settling l ((released l s).complete n o.outcome) := by
  unfold State.verdict
  rw [hn]
  dsimp only
  rw [ho]
  dsimp only
  rw [State.finishActive, State.completeActive, State.release_stopWaiting, State.settle_eq]

/-- The Station Table takes a verdict before the Slot Table and the engine act on it (R79). -/
theorem State.verdict_of_judged (hn : (s.engine l).active = some n) (hpending : (s.slot n).cancelPending = none)
    (hphase : (s.engine l).phase ≠ some .broadcast) (v : Verdict) :
    s.verdict l v =
      ((s.updateStation l (s.slot n).station fun r => r.afterVerdict v).modEngine l Engine.stopWaiting).actOnVerdict l n
        v := by
  unfold State.verdict
  rw [hn]
  dsimp only
  rw [hpending]
  dsimp only
  rw [if_neg hphase, State.modEngine_eq, State.updateStation_setEngine s l l (e := (s.engine l).stopWaiting) rfl,
    State.modEngine_eq, State.updateStation_engine]

theorem State.actOnVerdict_failed (s : State) (l : Line) (n : SlotNo) (f : Failure) :
    (s.modEngine l Engine.stopWaiting).actOnVerdict l n (.failed f) = settling l ((released l s).retry n f) := by
  rw [State.actOnVerdict, State.release_stopWaiting, State.settle_eq]

theorem State.actOnVerdict_goodReply (s : State) (l : Line) (n : SlotNo) :
    (s.modEngine l Engine.stopWaiting).actOnVerdict l n .goodReply =
      settling l ((released l (s.setSlot n { s.slot n with replyLength := some (s.link l).stored })).complete n .ok) := by
  rw [← State.release_stopWaiting, ← State.settle_eq]
  rfl

theorem State.actOnVerdict_replyTooLong (s : State) (l : Line) (n : SlotNo) :
    (s.modEngine l Engine.stopWaiting).actOnVerdict l n .replyTooLong =
      settling l
        ((released l (s.setSlot n { s.slot n with replyLength := some (s.link l).stored })).complete n .replyTooLong) := by
  rw [← State.release_stopWaiting, ← State.settle_eq]
  rfl

theorem State.actOnVerdict_goodAck (s : State) (l : Line) (n : SlotNo) :
    (s.modEngine l Engine.stopWaiting).actOnVerdict l n .goodAck =
      s.setEngine l (entersSettle
        { s.engine l with phase := some .request, resynced := true, replyTimer := none, gapWatch := false }
        (s.link l).quietTime) := by
  rw [← Engine.settle_eq, State.actOnVerdict, State.settle]
  simp only [State.modEngine_eq, State.setEngine_setEngine, State.setEngine_engine_same]
  rfl

theorem State.verdict_of_failed (hn : (s.engine l).active = some n) (hpending : (s.slot n).cancelPending = none)
    (hphase : (s.engine l).phase ≠ some .broadcast) (f : Failure) :
    s.verdict l (.failed f) =
      settling l
        ((released l (s.updateStation l (s.slot n).station fun r => r.afterVerdict (.failed f))).retry n f) := by
  rw [State.verdict_of_judged hn hpending hphase, State.actOnVerdict_failed]

/-- A verdict that changes no station record fails the attempt alone, in every phase (R72, R89). -/
theorem State.verdict_of_blameless (hn : (s.engine l).active = some n) (hpending : (s.slot n).cancelPending = none)
    {f : Failure} (hf : ∀ r : Station, r.afterVerdict (.failed f) = r) :
    s.verdict l (.failed f) = settling l ((released l s).retry n f) := by
  by_cases hphase : (s.engine l).phase = some .broadcast
  · unfold State.verdict
    rw [hn]
    dsimp only
    rw [hpending]
    dsimp only
    rw [if_pos hphase, State.actOnVerdict_failed]
  · rw [State.verdict_of_failed hn hpending hphase, State.updateStation_of_same (hf _)]

end

end Sys2Proof.Machine
end

/-! ### Taking and sending (R5, R67, R69 to R73, R85) -/

section
namespace Sys2Proof.Machine

theorem State.setLink_setLink (s : State) (l : Line) (x y : Link) : (s.setLink l x).setLink l y = s.setLink l y := by
  simp [State.setLink]

/-- An engine just written enters SETTLE. -/
theorem State.settle_setEngine (s : State) (l : Line) (e : Engine) :
    (s.setEngine l e).settle l = s.setEngine l (entersSettle e (s.link l).quietTime) := by
  rw [State.settle, State.modEngine_eq, State.setEngine_engine_same, State.setEngine_setEngine, Engine.settle_eq]
  rfl

/-- A slot joins its line's queue in an engine just written, which enters SETTLE. -/
theorem State.settle_joinHead {s : State} {n : SlotNo} {l : Line} (hline : (s.slot n).line = l) (e : Engine) :
    ((s.setEngine l e).joinHead n).settle l =
      (s.setSlot n { s.slot n with state := .queued }).setEngine l
        (entersSettle { e with queue := s.atHeadOfClass e.queue n } (s.link l).quietTime) := by
  have hline' : ((s.setEngine l e).slot n).line = l := hline
  rw [State.joinHead_eq, hline', State.setEngine_engine_same, State.settle_setEngine]
  exact State.setEngine_setEngine (s.setSlot n { s.slot n with state := .queued }) l _ _

/-- The state with the quiet time of a line broken by a space (R5). -/
def State.spaceHeard (s : State) (l : Line) : State := s.setLink l { s.link l with quietTime := 0 }

theorem State.spaceHeard_quietTime (s : State) (l : Line) : ((s.spaceHeard l).link l).quietTime = 0 := by
  rw [State.spaceHeard, State.setLink_link_same]

/-- An IDLE engine of a line that is ON takes the head of its queue (R67). -/
theorem State.takeHead_of_cons {s : State} {l : Line} {n : SlotNo} {rest : List SlotNo}
    (hidle : (s.engine l).state = .idle) (hon : (s.engine l).mode = .on) (hqueue : (s.engine l).queue = n :: rest) :
    s.takeHead l =
      (s.setSlot n { s.slot n with state := .active }).setEngine l
        { s.engine l with queue := rest, active := some n, phase := some (s.phaseFor (s.slot n)), resynced := false,
                          state := .guard, leadTimer := some 2, stuckTimer := none } := by
  unfold State.takeHead
  rw [if_pos ⟨hidle, hon⟩, hqueue]
  rfl

/-- In every other state and mode, and with no slot queued, nothing is taken. -/
theorem State.takeHead_of_excluded {s : State} {l : Line}
    (h : (s.engine l).state ≠ .idle ∨ (s.engine l).mode ≠ .on ∨ (s.engine l).queue = []) : s.takeHead l = s := by
  unfold State.takeHead
  dsimp only
  split
  · next hidle =>
    obtain hstate | hmode | hqueue := h
    · exact absurd hidle.1 hstate
    · exact absurd hidle.2 hmode
    · rw [hqueue]
  · rfl

/-- The end of the lead time begins the frame at its address character (R69). -/
theorem State.leadExpired_of_guard {s : State} {l : Line} {n : SlotNo} {p : Phase}
    (hstate : (s.engine l).state = .guard) (hlead : (s.engine l).leadTimer ≠ none) (hn : (s.engine l).active = some n)
    (hp : (s.engine l).phase = some p) :
    s.leadExpired l =
      { s with slots := if (s.engine l).resynced then s.slots
                        else s.slots.put n { s.slot n with attempts := (s.slot n).attempts + 1 },
               engines := s.engines.put l { s.engine l with state := .transmit, leadTimer := none },
               links := s.links.put l
                 { s.link l with transmitter := .sending (byteOf (s.slot n).station.val) true 1 [],
                                 check := crcByte 0xFFFF (byteOf (s.slot n).station.val), sendCount := 1,
                                 sentToggle := (s.station l (s.slot n).station).toggle } } := by
  have hcheck : 1 ≤ 3 + frameLength (s.slot n) p := by omega
  have hbegun : (if (s.engine l).resynced then s else s.modSlot n fun y => { y with attempts := y.attempts + 1 }) =
      { s with slots := if (s.engine l).resynced then s.slots
                        else s.slots.put n { s.slot n with attempts := (s.slot n).attempts + 1 } } := by
    split <;> rfl
  unfold State.leadExpired
  rw [if_pos ⟨hstate, hlead⟩, hn, hp]
  dsimp only
  rw [hbegun, State.beginCharacter]
  simp only [State.modLink_eq, State.setLink_link_same, State.setLink_setLink, if_pos hcheck]
  rfl

/-- Settles O34: a take and the end of a lead time, each read off its equation. -/
theorem takeAndLeadTimeBeginTheFrame : Obligations.TakeAndLeadTimeBeginTheFrame := by
  refine ⟨⟨fun s l n rest hs hidle hon hqueue hline => ?_, fun s l hs h => ?_⟩, fun s l n p hs hstate hlead hn hp => ?_⟩
  · have hexec : exec (.take l) s = .next (s.takeHead l).drive := happening_of_running hs _
    rw [hexec, State.takeHead_of_cons hidle hon hqueue, State.phaseFor, hline]
    rfl
  · have hexec : exec (.take l) s = .next (s.takeHead l).drive := happening_of_running hs _
    rw [hexec, State.takeHead_of_excluded h]
  · have hexec : exec (.leadTimerExpiry l) s = .next (s.leadExpired l).drive := happening_of_running hs _
    rw [hexec, State.leadExpired_of_guard hstate hlead hn hp]

/-- Space heard outside GUARD returns the quiet time to zero (R5). -/
theorem State.guardSpace_of_not_guard {s : State} {l : Line} (hstate : (s.engine l).state ≠ .guard)
    (hmode : (s.engine l).mode ≠ .absent) : s.guardSpace l = s.spaceHeard l := by
  unfold State.guardSpace
  dsimp only
  split
  · contradiction
  · rw [if_neg hmode]
    rfl

/-- Before an attempt has begun, space heard in GUARD puts the slot back at the head of its class (R32, R70). -/
theorem State.guardSpace_of_guard {s : State} {l : Line} {n : SlotNo} (hstate : (s.engine l).state = .guard)
    (hn : (s.engine l).active = some n) (hresynced : (s.engine l).resynced = false) (hline : (s.slot n).line = l) :
    s.guardSpace l =
      ((s.spaceHeard l).setSlot n { s.slot n with state := .queued }).setEngine l
        (entersSettle { s.engine l with leadTimer := none, active := none, phase := none,
                                        queue := s.atHeadOfClass (s.engine l).queue n } 0) := by
  have hclear : Engine.release { s.engine l with leadTimer := none } =
      { s.engine l with leadTimer := none, active := none, phase := none } := by rw [Engine.release, ← hresynced]
  calc
    s.guardSpace l =
        (((((s.spaceHeard l).modEngine l fun y => { y with leadTimer := none }).modEngine l Engine.release).joinHead
          n).settle l) := by
      unfold State.guardSpace
      dsimp only
      rw [hstate, hn]
      dsimp only
      rw [hresynced]
      rfl
    _ = ((((s.spaceHeard l).setEngine l (Engine.release { s.engine l with leadTimer := none })).joinHead n).settle l) := by
      rw [State.modEngine_eq, State.modEngine_eq, State.setEngine_setEngine, State.setEngine_engine_same]
      rfl
    _ = _ := by
      rw [State.settle_joinHead (s := s.spaceHeard l) hline, State.spaceHeard_quietTime, hclear]
      rfl

/-- With resynced set the engine keeps the slot (R70, R80). -/
theorem State.guardSpace_of_resynced {s : State} {l : Line} {n : SlotNo} (hstate : (s.engine l).state = .guard)
    (hn : (s.engine l).active = some n) (hresynced : (s.engine l).resynced = true) :
    s.guardSpace l = (s.spaceHeard l).setEngine l (entersSettle { s.engine l with leadTimer := none } 0) := by
  calc
    s.guardSpace l = ((s.spaceHeard l).modEngine l fun y => { y with leadTimer := none }).settle l := by
      unfold State.guardSpace
      dsimp only
      rw [hstate, hn]
      dsimp only
      rw [hresynced]
      rfl
    _ = _ := by
      rw [State.modEngine_eq, State.settle_setEngine, State.spaceHeard_quietTime]
      rfl

/-- Settles O35: space outside GUARD, space before an attempt, space with resynced set. -/
theorem spaceInGuardDefers : Obligations.SpaceInGuardDefers := by
  refine ⟨fun s l hs hstate hmode => ?_, fun s l n hs hstate hn hline => ⟨fun hresynced => ?_, fun hresynced => ?_⟩⟩
  all_goals
    have hexec : exec (.guardSpaceHeard l) s = .next (s.guardSpace l).drive :=
      happening_of_running hs (State.guardSpace · l)
    rw [hexec]
  · rw [State.guardSpace_of_not_guard hstate hmode]
    rfl
  · rw [State.guardSpace_of_guard hstate hn hresynced hline]
    rfl
  · rw [State.guardSpace_of_resynced hstate hn hresynced]
    rfl

end Sys2Proof.Machine
end

section
namespace Sys2Proof.Machine

/-! ### Settling and stuck lines (R82, R83) -/

/-- The state with the quiet time of a line at the settle gap at least (R5). -/
def State.settleGapHeard (s : State) (l : Line) : State :=
  s.setLink l { s.link l with quietTime := max (s.link l).quietTime (s.engine l).config.settleGap }

theorem State.settled_of_not_settle {s : State} {l : Line} (hmode : (s.engine l).mode ≠ .absent)
    (hstate : (s.engine l).state ≠ .settle) : s.settled l = s.settleGapHeard l := by
  unfold State.settled
  rw [if_neg hmode, if_neg hstate]
  rfl

/-- In SETTLE the settle gap lets the engine leave (R82). -/
theorem State.settled_of_settle {s : State} {l : Line} (hmode : (s.engine l).mode ≠ .absent)
    (hstate : (s.engine l).state = .settle) :
    s.settled l = (s.settleGapHeard l).setEngine l (s.engine l).leaveSettle := by
  unfold State.settled
  rw [if_neg hmode, if_pos hstate]
  rfl

/-- With a slot held SETTLE is left into GUARD (R80). -/
theorem Engine.leaveSettle_of_active {e : Engine} (h : e.active ≠ none) :
    e.leaveSettle = { e with state := .guard, leadTimer := some 2, stuckTimer := none } := by
  unfold Engine.leaveSettle
  split
  · rfl
  · contradiction

theorem Engine.leaveSettle_of_none {e : Engine} (hnone : e.active = none) (hon : e.mode = .on) :
    e.leaveSettle = { e with state := .idle, stuckTimer := none } := by
  unfold Engine.leaveSettle
  rw [hnone, if_pos hon]

theorem State.stuckExpired_of_settle {s : State} {l : Line} (hstate : (s.engine l).state = .settle)
    (hstuck : (s.engine l).stuckTimer ≠ none) :
    s.stuckExpired l =
      { s with engines := s.engines.put l { s.engine l with stuckRaised := true, stuckTimer := some 704 },
               events := if (s.engine l).stuckRaised then s.events
                         else { s.events with stuck := s.events.stuck.put l true } } := by
  unfold State.stuckExpired
  rw [if_pos ⟨hstate, hstuck⟩]
  dsimp only
  split <;> rfl

/-- Settles O45: outside SETTLE, with a slot held, with none on a line that is ON, and the stuck timer. -/
theorem settleEndsOrIsStuck : Obligations.SettleEndsOrIsStuck := by
  intro s l hs
  have hquiet : exec (.settleQuiet l) s = .next (s.settled l).drive := happening_of_running hs (State.settled · l)
  have hstuckTimer : exec (.stuckTimerExpiry l) s = .next (s.stuckExpired l).drive :=
    happening_of_running hs (State.stuckExpired · l)
  rw [hquiet, hstuckTimer]
  refine ⟨fun hmode hstate => ?_, fun hmode hstate hactive => ?_, fun hstate hnone hon => ?_, fun hstate hstuck => ?_⟩
  · rw [State.settled_of_not_settle hmode hstate]
    rfl
  · rw [State.settled_of_settle hmode hstate, Engine.leaveSettle_of_active hactive]
    rfl
  · rw [State.settled_of_settle (by simp [hon]) hstate, Engine.leaveSettle_of_none hnone hon]
    rfl
  · rw [State.stuckExpired_of_settle hstate hstuck]

/-! ### Cancelling the active slot (R84 to R86) -/

theorem Engine.Still.stopWaiting_eq {e : Engine} (h : e.Still) : e.stopWaiting = e := by
  obtain ⟨-, -, hreply, hgap⟩ := h
  rw [Engine.stopWaiting, ← hreply, ← hgap]

/-- An engine without running timers goes OFF by its mode, drain kind, state and stuck timer alone (R61). -/
theorem Engine.Still.toOff_eq {e : Engine} (h : e.Still) :
    e.toOff = { e with mode := .off, drainKind := none, state := .disabled, stuckTimer := none } := by
  obtain ⟨hlead, hhold, hreply, hgap⟩ := h
  simp [Engine.toOff, hlead, hhold, hreply, hgap]

theorem Engine.stopLead_eq {e : Engine} (h : e.leadTimer = none) : { e with leadTimer := none } = e := by rw [← h]

theorem EngineFits.leadTimer_none {e : Engine} (h : EngineFits e) (hstate : e.state ≠ .guard) : e.leadTimer = none := by
  obtain ⟨-, -, hlead, -⟩ := h
  simpa [hstate] using hlead

theorem State.released_setEngine (s : State) (l : Line) (e : Engine) :
    released l (s.setEngine l e) = s.setEngine l e.stopWaiting.release := by
  rw [← State.release_stopWaiting, State.modEngine_eq, State.modEngine_eq, State.setEngine_setEngine,
    State.setEngine_setEngine, State.setEngine_engine_same, State.setEngine_engine_same]

/-- An engine just written completes its slot and enters SETTLE. -/
theorem State.finishActive_setEngine (s : State) (l : Line) (e : Engine) (n : SlotNo) (o : TransactionOutcome) :
    (s.setEngine l e).finishActive l n o = settling l ((s.setEngine l e.release).complete n o) := by
  rw [State.finishActive, State.completeActive, State.modEngine_eq, State.setEngine_setEngine,
    State.setEngine_engine_same, State.settle_eq]

theorem State.engineCancel_of_guard {s : State} {l : Line} (hstate : (s.engine l).state = .guard) (n : SlotNo)
    (o : TransactionOutcome) :
    s.engineCancel l n o = (s.setEngine l { s.engine l with leadTimer := none }).finishActive l n o := by
  unfold State.engineCancel
  rw [hstate]
  rfl

theorem State.engineCancel_of_wait {s : State} {l : Line}
    (hstate : (s.engine l).state = .await ∨ (s.engine l).state = .receive) (n : SlotNo) (o : TransactionOutcome) :
    s.engineCancel l n o = (s.setEngine l (s.engine l).stopWaiting).finishActive l n o := by
  unfold State.engineCancel
  obtain hstate | hstate := hstate <;> rw [hstate] <;> rfl

theorem State.engineCancel_of_settle {s : State} {l : Line} (hstate : (s.engine l).state = .settle) (n : SlotNo)
    (o : TransactionOutcome) :
    s.engineCancel l n o =
      (s.completeActive l n o).setEngine l
        (if (s.engine l).mode = .draining then (s.engine l).release.toOff else (s.engine l).release) := by
  unfold State.engineCancel
  rw [hstate]
  dsimp only
  rw [State.modEngine_eq, State.completeActive_engine]
  rfl

/-- While the frame is sent and held a cancel waits (R85). -/
theorem State.engineCancel_of_frame {s : State} {l : Line}
    (hstate : (s.engine l).state = .transmit ∨ (s.engine l).state = .turnaround) (n : SlotNo) (o : TransactionOutcome) :
    s.engineCancel l n o = s := by
  unfold State.engineCancel
  obtain hstate | hstate := hstate <;> rw [hstate]

theorem State.setEngine_engine_self (s : State) (l : Line) : s.setEngine l (s.engine l) = s := by
  simp [State.setEngine, State.engine]

/-- Settles O46: the timers that the engine's state leaves running are those that the cancel stops. -/
theorem cancelEndsTheActiveSlot : Obligations.CancelEndsTheActiveSlot := by
  intro s l n o hfits e t
  have ht : t = (s.setEngine l (Engine.stopWaiting { e with leadTimer := none }).release).complete n o :=
    congrArg (State.complete · n o) (State.released_setEngine s l { e with leadTimer := none })
  have hstill (hstate : e.state = .settle) : e.Still :=
    hfits.still (e := e) (by simp [hstate]) (by simp [hstate]) (by simp [hstate]) (by simp [hstate])
  have hsettle (hstate : e.state = .settle) : t = s.completeActive l n o := by
    rw [ht, Engine.stopLead_eq (hstill hstate).1, (hstill hstate).stopWaiting_eq]
    rfl
  have hengine := s.completeActive_engine l n o
  refine ⟨fun hstate => ?_, fun hstate hmode => ?_, fun hstate hmode => ?_, fun hstate => ?_⟩
  · rw [ht]
    obtain hguard | hwait := hstate
    · rw [State.engineCancel_of_guard hguard, State.finishActive_setEngine, (hfits.still_of_guard hguard).stopWaiting_eq]
    · have hguard : e.state ≠ .guard := by
        obtain hstate | hstate := hwait <;> simp [hstate]
      rw [State.engineCancel_of_wait hwait, State.finishActive_setEngine, Engine.stopLead_eq (hfits.leadTimer_none hguard)]
  · rw [State.engineCancel_of_settle hstate, if_neg hmode, ← hengine, State.setEngine_engine_self, hsettle hstate]
  · have hreleased : e.release.Still := hstill hstate
    rw [State.engineCancel_of_settle hstate, if_pos hmode, hreleased.toOff_eq, hsettle hstate, hengine]
    rfl
  · exact State.engineCancel_of_frame hstate n o

/-! ### The class order of a pending queue (R66) -/

/-- In a list where whatever stands before a chosen element is chosen too, the leading chosen elements are all of them. -/
theorem takeWhile_dropWhile_eq_filter {p : SlotNo → Bool} {q : List SlotNo}
    (hq : q.Pairwise fun a b => p b = true → p a = true) :
    q.takeWhile p = q.filter p ∧ q.dropWhile p = q.filter fun m => !p m := by
  induction q with
  | nil => exact ⟨rfl, rfl⟩
  | cons a q ih =>
    obtain ⟨ha, hq⟩ := List.pairwise_cons.1 hq
    obtain ⟨htake, hdrop⟩ := ih hq
    cases hp : p a with
    | true => simp [hp, htake, hdrop]
    | false =>
      have hrest : ∀ b ∈ q, p b = false := fun b hb => Bool.eq_false_iff.2 fun hpb => by simp [ha b hb hpb] at hp
      have hnone : q.filter p = [] := List.filter_eq_nil_iff.2 fun b hb => by simp [hrest b hb]
      have hall : (q.filter fun m => !p m) = q := List.filter_eq_self.2 fun b hb => by simp [hrest b hb]
      simp [hp, hnone, hall]

/-- Settles O48: in class order the slots ahead are those of a rank that may stand ahead. -/
theorem queueKeepsClassOrder : Obligations.QueueKeepsClassOrder := by
  intro s q n rank hq
  obtain ⟨htail, htail'⟩ := takeWhile_dropWhile_eq_filter (p := fun m => decide (rank m ≤ rank n))
    (hq.imp fun hab hb => by simp only [decide_eq_true_eq] at hb ⊢; omega)
  obtain ⟨hhead, hhead'⟩ := takeWhile_dropWhile_eq_filter (p := fun m => decide (rank m < rank n))
    (hq.imp fun hab hb => by simp only [decide_eq_true_eq] at hb ⊢; omega)
  refine ⟨?_, ?_, s.atTailOfClass_pairwise n hq, s.atHeadOfClass_pairwise n hq⟩
  · simp only [← decide_not, Nat.not_le] at htail'
    rw [← htail, ← htail']
    rfl
  · simp only [← decide_not, Nat.not_lt] at hhead'
    rw [← hhead, ← hhead']
    rfl

/-! ### The end of the turnaround hold (R73, R85) -/

section
variable {s : State} {l : Line} {n : SlotNo}

theorem State.holdExpired_of_turnaround (hstate : (s.engine l).state = .turnaround) (hhold : (s.engine l).holdTimer ≠ none) :
    s.holdExpired l = s.holdEnded l := by
  rw [State.holdExpired, if_pos ⟨hstate, hhold⟩]

/-- The engine's slot leaves it and completes, at the end of the hold. -/
theorem State.finishActive_of_hold (s : State) (l : Line) (n : SlotNo) (o : TransactionOutcome) :
    (s.modEngine l fun y => { y with holdTimer := none }).finishActive l n o =
      settling l ((s.setEngine l
        { s.engine l with holdTimer := none, active := none, phase := none, resynced := false }).complete n o) :=
  s.finishActive_setEngine l { s.engine l with holdTimer := none } n o

theorem State.holdEnded_of_pending (hn : (s.engine l).active = some n) {o : PendingOutcome}
    (ho : (s.slot n).cancelPending = some o) :
    s.holdEnded l = (s.modEngine l fun y => { y with holdTimer := none }).finishActive l n o.outcome := by
  unfold State.holdEnded
  rw [hn]
  dsimp only
  rw [ho]

theorem State.holdEnded_of_broadcast (hn : (s.engine l).active = some n) (hpending : (s.slot n).cancelPending = none)
    (hphase : (s.engine l).phase = some .broadcast) :
    s.holdEnded l = (s.modEngine l fun y => { y with holdTimer := none }).finishActive l n .sent := by
  unfold State.holdEnded
  rw [hn]
  dsimp only
  rw [hpending]
  dsimp only
  rw [if_pos hphase]

theorem State.holdEnded_of_reply (hn : (s.engine l).active = some n) (hpending : (s.slot n).cancelPending = none)
    (hphase : (s.engine l).phase ≠ some .broadcast) :
    s.holdEnded l =
      s.setEngine l { s.engine l with holdTimer := none, state := .await,
                                      replyTimer := some ((s.engine l).config.replyTimeout * 11) } := by
  unfold State.holdEnded
  rw [hn]
  dsimp only
  rw [hpending]
  dsimp only
  rw [if_neg hphase, State.modEngine_eq, State.modEngine_eq, State.setEngine_setEngine, State.setEngine_engine_same]

end

/-- Settles O38: a pending cancel, a broadcast, and every other phase. -/
theorem holdEndEntersAwaitOrCompletes : Obligations.HoldEndEntersAwaitOrCompletes := by
  intro s l n hs hstate hhold hn
  have hexec : exec (.holdTimerExpiry l) s = .next (s.holdExpired l).drive := happening_of_running hs (State.holdExpired · l)
  rw [hexec, State.holdExpired_of_turnaround hstate hhold]
  refine ⟨fun o ho => ?_, fun hpending hphase => ?_, fun hpending hphase => ?_⟩
  · rw [State.holdEnded_of_pending hn ho, State.finishActive_of_hold]
    rfl
  · rw [State.holdEnded_of_broadcast hn hpending hphase, State.finishActive_of_hold]
    rfl
  · rw [State.holdEnded_of_reply hn hpending hphase]
    rfl

end Sys2Proof.Machine
end

/-! ### Characters of the controller's (R2, R4 to R6, R11, R52, R71, R72) -/

section
namespace Sys2Proof.Machine

/-- A character starts with space, so no read-back of a good echo is mark throughout (R2). -/
theorem wireBits_ne_allOnes (data : Byte) (marker : Bool) : wireBits data marker ≠ BitVec.allOnes 11 := by
  intro h
  have hstart : (wireBits data marker).getLsbD 0 = (BitVec.allOnes 11).getLsbD 0 := by rw [h]
  simp only [wireBits, BitVec.getLsbD_cast, BitVec.getLsbD_append] at hstart
  simp at hstart

/-- The quiet time at the end of a good echo is the mark at its end (R5). -/
theorem Link.heardBack_of_good (k : Link) (data : Byte) (marker : Bool) :
    k.heardBack (wireBits data marker) = { k with quietTime := quietMarks 11 (wireBits data marker) } := by
  rw [Link.heardBack_eq, if_neg (wireBits_ne_allOnes data marker)]
  rfl

/-- The state at the end of a character with a good echo (R4, R5). -/
def State.echoHeard (s : State) (l : Line) (data : Byte) (marker : Bool) : State :=
  s.setLink l { s.link l with quietTime := quietMarks 11 (wireBits data marker) }

theorem frameLength_eq (x : Slot) (p : Phase) : frameLength x p = if p = .resync then 0 else x.requestLength := by
  cases p <;> rfl

theorem frameControl_request (toggle : Bool) : frameControl .request toggle = if toggle then 0x81 else 0x01 := by
  cases toggle <;> rfl

/-- The character after the kth of a frame (R6). -/
theorem State.frameByte_succ (s : State) (x : Slot) (p : Phase) (toggle : Bool) (check : Word16) {k : Nat} (hk : 1 ≤ k) :
    s.frameByte x p toggle check (k + 1) =
      if k = 1 then frameControl p toggle
      else if k = 2 then byteOf (frameLength x p)
      else if k < 3 + frameLength x p then s.chainByte x.requestChain (k - 3)
      else if k = 3 + frameLength x p then highByte check
      else lowByte check := by
  have haddress : k + 1 ≠ 1 := by omega
  have hpayload : k + 1 ≤ 3 + frameLength x p ↔ k < 3 + frameLength x p := Iff.rfl
  have hcheck : k + 1 = 4 + frameLength x p ↔ k = 3 + frameLength x p := by omega
  simp only [State.frameByte, haddress, if_false, hpayload, hcheck, Nat.reduceEqDiff, Nat.reduceSubDiff]

/-- The character after the kth of a frame begins (R2, R6). -/
theorem State.beginCharacter_succ (s : State) (l : Line) (x : Slot) (p : Phase) {k : Nat} (hk : 1 ≤ k) {next : Byte}
    (hnext : next = s.frameByte x p (s.link l).sentToggle (s.link l).check (k + 1)) :
    s.beginCharacter l x p (k + 1) =
      s.setLink l { s.link l with
        transmitter := .sending next false 1 [],
        check := if k < 3 + frameLength x p then crcByte (s.link l).check next else (s.link l).check,
        sendCount := k + 1 } := by
  have hmarker : (k + 1 == 1) = false := beq_eq_false_iff_ne.2 (by omega)
  rw [State.beginCharacter, ← hnext, hmarker]
  rfl

section
variable {s : State} {l : Line} {n : SlotNo} {p : Phase} {data : Byte} {marker : Bool} {pos : Nat} {heard : List Bool}
  (hstate : (s.engine l).state = .transmit) (hn : (s.engine l).active = some n) (hp : (s.engine l).phase = some p)
  (hsending : (s.link l).transmitter = .sending data marker pos heard)
include hstate hn hp hsending

/-- A good echo with more to send begins the next character. -/
theorem State.characterEnded_of_more (hmore : (s.link l).sendCount < frameChars (s.slot n) p) :
    s.characterEnded l (wireBits data marker) =
      (s.echoHeard l data marker).beginCharacter l (s.slot n) p
        ((s.link l).sendCount + 1) := by
  unfold State.characterEnded
  dsimp only
  rw [hstate, hn, hp, hsending]
  dsimp only
  rw [if_pos rfl, if_pos hmore, State.modLink_eq, Link.heardBack_of_good]
  rfl

/-- A good echo with nothing more to send ends the frame. -/
theorem State.characterEnded_of_last (hlast : frameChars (s.slot n) p ≤ (s.link l).sendCount) :
    s.characterEnded l (wireBits data marker) =
      (s.echoHeard l data marker).frameSent l n p := by
  unfold State.characterEnded
  dsimp only
  rw [hstate, hn, hp, hsending]
  dsimp only
  rw [if_pos rfl, if_neg (Nat.not_lt.2 hlast), State.modLink_eq, Link.heardBack_of_good]
  rfl

/-- An echo mismatch stops the frame (R72). -/
theorem State.characterEnded_of_mismatch {readBack : BitVec 11} (hbad : readBack ≠ wireBits data marker) :
    s.characterEnded l readBack =
      (s.setLink l { s.link l with
        transmitter := .idle, sendCount := 0, receiver := .armed,
        quietTime := if readBack = BitVec.allOnes 11 then (s.link l).quietTime + 11
                     else quietMarks 11 readBack }).verdict l (.failed .collision) := by
  unfold State.characterEnded
  dsimp only
  rw [hstate, hn, hp, hsending]
  dsimp only
  rw [if_neg hbad, State.modLink_eq, State.modLink_eq, State.setLink_setLink, State.setLink_link_same, Link.heardBack_eq]
  rfl

end

/-- Settles O36: the next character of the frame, by its number. -/
theorem goodEchoBeginsTheNextCharacter : Obligations.GoodEchoBeginsTheNextCharacter := by
  intro s l n p data marker pos heard k hs hstate hn hp hsending hk hpos x length hmore check control next
  have hexec : exec (.characterSent l (wireBits data marker)) s =
      .next (s.characterEnded l (wireBits data marker)).drive := happening_of_running hs (State.characterEnded · l _)
  have hlength : length = frameLength x p := (frameLength_eq x p).symm
  have hframe : (s.link l).sendCount < frameChars (s.slot n) p := by
    rw [hk, frameChars, ← hlength]
    exact hmore
  rw [hexec, State.characterEnded_of_more hstate hn hp hsending hframe, hk]
  have hcontrol : control = frameControl p (s.link l).sentToggle := by
    dsimp only [control]
    split
    · rfl
    · exact (frameControl_request _).symm
    · rfl
  have hlink : (s.echoHeard l data marker).link l = { s.link l with quietTime := quietMarks 11 (wireBits data marker) } :=
    State.setLink_link_same ..
  have hnext : next = (s.echoHeard l data marker).frameByte x p ((s.echoHeard l data marker).link l).sentToggle
      ((s.echoHeard l data marker).link l).check (k + 1) := by
    rw [State.frameByte_succ _ _ _ _ _ hpos, hlink, ← hcontrol, ← hlength]
    rfl
  rw [State.beginCharacter_succ _ _ _ _ hpos hnext, hlink, State.echoHeard, State.setLink_setLink, ← hlength]
  rfl

/-! ### The ends of a frame (R71 to R73, R85) -/

/-- The state with other levels on the output pins; no block reads them. -/
def State.withPins (s : State) (p : Pins) : State := { s with pins := p }

theorem State.updateStation_withPins (s : State) (p : Pins) (l : Line) (a : StationAddr) (f : Station → Station) :
    (s.withPins p).updateStation l a f = (s.updateStation l a f).withPins p := by
  unfold State.updateStation
  split <;> rfl

theorem State.handOn_withPins (s : State) (p : Pins) (n : SlotNo) (o : TransactionOutcome) :
    (s.withPins p).handOn n o = (s.handOn n o).withPins p := by
  have horigin : (s.withPins p).slot n = s.slot n := rfl
  unfold State.handOn
  rw [horigin]
  split
  · rfl
  · unfold State.pollHandOn
    dsimp only
    split
    · rw [apply_ite (State.withPins · p)]
      rfl
    · rfl

theorem State.desync_withPins (s : State) (p : Pins) (n : SlotNo) (o : TransactionOutcome) :
    (s.withPins p).desync n o = (s.desync n o).withPins p := by
  have hslot : (s.withPins p).slot n = s.slot n := rfl
  unfold State.desync
  rw [hslot]
  split
  · exact State.updateStation_withPins ..
  · rfl

theorem State.complete_withPins (s : State) (p : Pins) (n : SlotNo) (o : TransactionOutcome) :
    (s.withPins p).complete n o = (s.complete n o).withPins p :=
  calc
    (s.withPins p).complete n o =
        (((s.modSlot n fun x => { x with outcome := some o, doneTime := s.tick }).withPins p).desync n o).handOn n o := rfl
    _ = _ := by
      rw [State.desync_withPins, State.handOn_withPins]
      rfl

theorem State.finishActive_withPins (s : State) (p : Pins) (l : Line) (n : SlotNo) (o : TransactionOutcome) :
    (s.withPins p).finishActive l n o = (s.finishActive l n o).withPins p := by
  have hcompleted : (s.withPins p).completeActive l n o = (s.completeActive l n o).withPins p :=
    State.complete_withPins (s.modEngine l Engine.release) p n o
  rw [State.finishActive, hcompleted]
  rfl

theorem State.holdEnded_withPins (s : State) (p : Pins) (l : Line) :
    (s.withPins p).holdEnded l = (s.holdEnded l).withPins p := by
  have hengine : (s.withPins p).engine l = s.engine l := rfl
  unfold State.holdEnded
  rw [hengine]
  split
  · rfl
  · next n _ =>
    have hslot : (s.withPins p).slot n = s.slot n := rfl
    dsimp only
    rw [hslot]
    split
    · exact State.finishActive_withPins (s.modEngine l fun y => { y with holdTimer := none }) p l n _
    · split
      · exact State.finishActive_withPins (s.modEngine l fun y => { y with holdTimer := none }) p l n _
      · rfl

/-- Outputs evaluated before the end of a hold are evaluated again after it. -/
theorem State.holdEnded_drive (s : State) (l : Line) : (s.drive.holdEnded l).drive = (s.holdEnded l).drive := by
  have hpins := s.holdEnded_withPins s.drivenPins l
  calc
    (s.drive.holdEnded l).drive = ((s.holdEnded l).withPins s.drivenPins).drive := congrArg State.drive hpins
    _ = (s.holdEnded l).drive := rfl

/-- The frame of a phase is sent: the transmitter rests, the receiver is armed, and the hold begins (R4, R6, R71, R73). -/
def State.frameEnded (s : State) (l : Line) (n : SlotNo) (p : Phase) : State :=
  { s with slots := if p = .request then s.slots.put n { s.slot n with requestSent := true } else s.slots,
           engines := s.engines.put l
             { s.engine l with state := .turnaround, holdTimer := some (s.engine l).config.turnaroundHold },
           links := s.links.put l { s.link l with transmitter := .idle, sendCount := 0, receiver := .armed } }

/-- A hold of 0 ends within the same happening (R73). -/
theorem State.frameSent_eq (s : State) (l : Line) (n : SlotNo) (p : Phase) :
    s.frameSent l n p =
      if (s.engine l).config.turnaroundHold = 0 then (s.frameEnded l n p).holdEnded l else s.frameEnded l n p := by
  have hheld : State.modEngine (if p = .request then
      (s.modLink l Link.frameOver).modSlot n fun x => { x with requestSent := true } else s.modLink l Link.frameOver) l
      (fun y => { y with state := .turnaround, holdTimer := some (s.engine l).config.turnaroundHold }) =
      s.frameEnded l n p := by
    unfold State.frameEnded
    split <;> rfl
  unfold State.frameSent
  dsimp only
  rw [hheld]

/-- Settles O37: the last good echo with a hold and without one; a mismatch with no cancel pending and with one. -/
theorem lastEchoOrMismatchEndsTheFrame : Obligations.LastEchoOrMismatchEndsTheFrame := by
  refine ⟨?_, ?_⟩
  · intro s l n p data marker pos heard hs hstate hn hp hsending hlast hold t
    have hexec : exec (.characterSent l (wireBits data marker)) s =
        .next (s.characterEnded l (wireBits data marker)).drive := happening_of_running hs (State.characterEnded · l _)
    rw [← frameLength_eq] at hlast
    have hlink : (s.echoHeard l data marker).link l =
        { s.link l with quietTime := quietMarks 11 (wireBits data marker) } := State.setLink_link_same ..
    have hended : ((s.echoHeard l data marker).frameEnded l n p).drive = t := by
      unfold State.frameEnded
      rw [hlink, State.echoHeard, State.setLink_links, Table.put_put]
      rfl
    have hconfig : ((s.echoHeard l data marker).engine l).config.turnaroundHold = hold := rfl
    rw [hexec, State.characterEnded_of_last hstate hn hp hsending hlast, State.frameSent_eq, hconfig]
    refine ⟨fun hpos => ?_, fun hzero => ?_⟩
    · rw [if_neg (Nat.pos_iff_ne_zero.1 hpos), hended]
    · have hexpiry : exec (.holdTimerExpiry l) t = .next (t.holdExpired l).drive :=
        happening_of_running (s := t) hs (State.holdExpired · l)
      have hengine : t.engine l = { s.engine l with state := .turnaround, holdTimer := some hold } :=
        Table.look_put_same ..
      rw [if_pos hzero, hexpiry, State.holdExpired_of_turnaround (by rw [hengine]) (by rw [hengine]; exact nofun), ← hended,
        State.holdEnded_drive]
  · intro s l n p data marker pos heard readBack hs hstate hn hp hsending hbad t
    have hexec : exec (.characterSent l readBack) s = .next (s.characterEnded l readBack).drive :=
      happening_of_running hs (State.characterEnded · l _)
    rw [hexec, State.characterEnded_of_mismatch hstate hn hp hsending hbad]
    refine ⟨fun hpending => ?_, fun o ho => ?_⟩
    · rw [State.verdict_of_blameless (s := s.setLink l _) hn hpending fun r => rfl]
      rfl
    · rw [State.verdict_of_pending (s := s.setLink l _) hn ho]
      rfl

end Sys2Proof.Machine
end

/-! ### Waiting and receiving (R3, R5, R7 to R11, R53, R75 to R81, R89) -/

section
namespace Sys2Proof.Machine

/-- Settles O39: each limit gives its verdict, which counts one more failure against the station. -/
theorem silenceAndGapFailTheAttempt : Obligations.SilenceAndGapFailTheAttempt := by
  intro s l n hs hn hpending hphase failed
  refine ⟨fun hstate hreply => ?_, fun hstate hgap => ?_⟩
  · have hexec : exec (.replyTimeout l) s = .next (s.replyExpired l).drive :=
      happening_of_running hs (State.replyExpired · l)
    rw [hexec, State.replyExpired, if_pos ⟨hstate, hreply⟩, State.verdict_of_failed hn hpending hphase]
    rfl
  · have hexec : exec (.gapLimitExpiry l) s = .next (s.gapExpired l).drive := happening_of_running hs (State.gapExpired · l)
    rw [hexec, State.gapExpired, if_pos ⟨hstate, hgap⟩, State.modLink_eq,
      State.verdict_of_failed (s := s.setLink l _) hn hpending hphase]
    rfl

/-! ### The samples of a character (R3, R7) -/

section
variable (stop marker : Bool) (data : Byte)

/-- The sampled positions: data bits, marker, stop. -/
theorem samples_getLsbD (i : Nat) :
    BitVec.getLsbD (w := 10) (BitVec.ofBool stop ++ BitVec.ofBool marker ++ data) i =
      if i < 8 then data.getLsbD i else if i = 8 then marker else decide (i = 9) && stop := by
  refine (BitVec.getLsbD_append (x := BitVec.ofBool stop ++ BitVec.ofBool marker) (y := data)).trans ?_
  rw [BitVec.getLsbD_append]
  obtain hdata | rfl | rfl | hbeyond : i < 8 ∨ i = 8 ∨ i = 9 ∨ 10 ≤ i := by omega
  · simp [hdata]
  · simp
  · simp
  · have hpast : i - 8 - 1 ≠ 0 := by omega
    simp [hpast, show ¬ i < 8 by omega, show i ≠ 8 by omega, show i ≠ 9 by omega, show i - 8 ≠ 0 by omega]

theorem sampleSound_append : sampleSound (BitVec.ofBool stop ++ BitVec.ofBool marker ++ data) = stop :=
  (samples_getLsbD stop marker data 9).trans (by simp)

theorem sampleMarker_append : sampleMarker (BitVec.ofBool stop ++ BitVec.ofBool marker ++ data) = marker :=
  (samples_getLsbD stop marker data 8).trans (by simp)

theorem sampleData_append : sampleData (BitVec.ofBool stop ++ BitVec.ofBool marker ++ data) = data := by
  apply BitVec.eq_of_getLsbD_eq
  intro i hi
  rw [sampleData, BitVec.getLsbD_extractLsb', samples_getLsbD]
  simp [hi]

/-- A sound stop after a marker of 0 is the one mark at the end of a character. -/
theorem quietMarks_of_marker_zero : quietMarks 10 (BitVec.ofBool true ++ BitVec.ofBool false ++ data) = 1 := by
  unfold quietMarks
  simp only [samples_getLsbD, List.range_succ]
  simp

end

theorem addressFromStation_iff (b : Byte) :
    addressFromStation b = true ↔ b.getLsbD 7 = true ∧ b.getLsbD 6 = false ∧ b.getLsbD 5 = false := by
  have hunused : b.extractLsb' 5 2 = 0 ↔ b.getLsbD 6 = false ∧ b.getLsbD 5 = false := by
    constructor
    · intro h
      have hbit (i : Nat) : (b.extractLsb' 5 2).getLsbD i = false := by
        rw [h]
        exact BitVec.getLsbD_zero
      exact ⟨by simpa using hbit 1, by simpa using hbit 0⟩
    · rintro ⟨hsix, hfive⟩
      apply BitVec.eq_of_getLsbD_eq
      intro i hi
      obtain rfl | rfl : i = 0 ∨ i = 1 := by omega
      · simpa using hfive
      · simpa using hsix
  rw [addressFromStation, Bool.and_eq_true, beq_iff_eq, hunused]

theorem addressStation_eq (b : Byte) : addressStation b = b.toNat % 32 := by
  simp [addressStation, BitVec.extractLsb'_toNat]

theorem wordOf_toNat (low high : Byte) : (wordOf low high).toNat = high.toNat * 256 + low.toNat := by
  rw [wordOf, BitVec.toNat_append, ← Nat.shiftLeft_add_eq_or_of_lt low.isLt, Nat.shiftLeft_eq]

/-! ### The verdicts that a character gives at once (R76, steps 1 to 3) -/

/-- A character is broken or stands in a wrong place: a broken stop, a marker that does not fit, or the address of no
station. -/
abbrev Garbles (first : Prop) (stop marker : Bool) (data : Byte) : Prop :=
  stop = false ∨ (first ∧ marker = false) ∨ (¬ first ∧ marker = true) ∨
    (first ∧ (data.getLsbD 7 = false ∨ data.getLsbD 6 = true ∨ data.getLsbD 5 = true))

section
variable {s : State} {l : Line} {n : SlotNo} {p : Phase} (samples : BitVec 10)

/-- The judgement of one character, in its order. -/
theorem earlyVerdict_append (count : Nat) (station : StationAddr) (stop marker : Bool) (data : Byte) :
    earlyVerdict (count == 0) station (BitVec.ofBool stop ++ BitVec.ofBool marker ++ data) =
      if Garbles (count = 0) stop marker data then some (.failed .garbled)
      else if count = 0 ∧ data.toNat % 32 ≠ station.val then some (.failed .wrongStation)
      else none := by
  have haddress : addressFromStation data = false ↔
      data.getLsbD 7 = false ∨ data.getLsbD 6 = true ∨ data.getLsbD 5 = true := by
    rw [← Bool.not_eq_true, addressFromStation_iff]
    simp only [not_and_or, Bool.not_eq_true, Bool.not_eq_false]
  unfold earlyVerdict
  rw [sampleSound_append, sampleMarker_append, sampleData_append, addressStation_eq]
  by_cases hcount : count = 0
  · cases stop <;> cases marker <;> simp [Garbles, hcount, haddress]
  · cases stop <;> cases marker <;> simp [Garbles, hcount]

/-- In RECEIVE the engine judges the character once the link has taken its stop bit (R76). -/
theorem State.characterDelivered_of_early (hmode : (s.engine l).mode ≠ .absent) (ht : (s.link l).transmitter = .idle)
    (hr : (s.link l).receiver ≠ .waitMark) (hstate : (s.engine l).state = .receive) (hn : (s.engine l).active = some n)
    (hp : (s.engine l).phase = some p) {v : Verdict}
    (hv : earlyVerdict ((s.link l).charCount == 0) (s.slot n).station samples = some v) :
    s.characterDelivered l samples = (s.setLink l ((s.link l).delivered samples)).verdict l v := by
  unfold State.characterDelivered
  rw [if_pos ⟨hmode, ht, hr⟩]
  dsimp only
  rw [hstate, hn, hp]
  dsimp only
  rw [hv]
  rfl

theorem State.characterDelivered_of_taken (hmode : (s.engine l).mode ≠ .absent) (ht : (s.link l).transmitter = .idle)
    (hr : (s.link l).receiver ≠ .waitMark) (hstate : (s.engine l).state = .receive) (hn : (s.engine l).active = some n)
    (hp : (s.engine l).phase = some p)
    (hv : earlyVerdict ((s.link l).charCount == 0) (s.slot n).station samples = none) :
    s.characterDelivered l samples =
      (s.setLink l ((s.link l).delivered samples)).takeCharacter l (s.slot n) p (sampleData samples) := by
  unfold State.characterDelivered
  rw [if_pos ⟨hmode, ht, hr⟩]
  dsimp only
  rw [hstate, hn, hp]
  dsimp only
  rw [hv]
  rfl

end

theorem Link.delivered_append (k : Link) (stop marker : Bool) (data : Byte) :
    k.delivered (BitVec.ofBool stop ++ BitVec.ofBool marker ++ data) =
      { k with receiver := if stop then .armed else .waitMark,
               quietTime := quietMarks 10 (BitVec.ofBool stop ++ BitVec.ofBool marker ++ data),
               gap := if stop then 0 else k.gap } := by
  have hstop := sampleSound_append stop marker data
  unfold sampleSound at hstop
  rw [Link.delivered, hstop]

/-- Settles O41: each fault of a character gives its verdict, and GARBLED alone counts a failure. -/
theorem badCharacterFailsTheAttempt : Obligations.BadCharacterFailsTheAttempt := by
  intro s l n p data marker stop hs hmode hstate hn hp hphase hpending ht hr samples first garbled heard
  have hexec : exec (.characterReceived l samples) s = .next (s.characterDelivered l samples).drive :=
    happening_of_running hs (State.characterDelivered · l _)
  have hearly : earlyVerdict ((s.link l).charCount == 0) (s.slot n).station samples = _ :=
    earlyVerdict_append (s.link l).charCount (s.slot n).station stop marker data
  have hheard : s.setLink l ((s.link l).delivered samples) = heard :=
    congrArg (s.setLink l) (Link.delivered_append (s.link l) stop marker data)
  have hbroadcast : (s.engine l).phase ≠ some .broadcast := by simpa [hp] using hphase
  rw [hexec]
  refine ⟨fun hbad => ?_, fun hgood hfirst hstation => ?_⟩
  · rw [State.characterDelivered_of_early samples hmode ht hr hstate hn hp (hearly.trans (if_pos hbad)), hheard,
      State.verdict_of_failed (s := heard) hn hpending hbroadcast]
    rfl
  · rw [State.characterDelivered_of_early samples hmode ht hr hstate hn hp
      (hearly.trans ((if_neg hgood).trans (if_pos ⟨hfirst, hstation⟩))), hheard,
      State.verdict_of_blameless (s := heard) hn hpending fun r => rfl]

/-! ### The characters of a reply (R8 to R10, R53, R76, R78) -/

/-- The second check character completes the reply. -/
theorem State.takeCharacter_of_last (s : State) (l : Line) {k : Link} (x : Slot) (p : Phase) (b : Byte)
    (hcount : 3 < k.charCount) (hlast : 4 + k.length.toNat ≤ k.charCount) :
    (s.setLink l k).takeCharacter l x p b =
      (s.setLink l { k with charCount := k.charCount + 1 }).verdict l
        (judgeFrame p (decide (k.check.toNat = k.checkHigh.toNat * 256 + b.toNat)) k.control k.length.toNat x.replyRoom
          k.sentToggle) := by
  have hcheck : (k.check == wordOf b k.checkHigh) = decide (k.check.toNat = k.checkHigh.toNat * 256 + b.toNat) := by
    rw [Bool.eq_iff_iff, beq_iff_eq, decide_eq_true_iff, ← wordOf_toNat, BitVec.toNat_inj]
  unfold State.takeCharacter
  dsimp only
  rw [State.setLink_link_same, if_neg (by omega), if_neg (by omega), if_neg (by omega), if_neg (by omega),
    if_neg (by omega), hcheck, State.setLink_setLink]

@[simp] theorem State.updateStation_slot (s : State) (l : Line) (a : StationAddr) (f : Station → Station) (n : SlotNo) :
    (s.updateStation l a f).slot n = s.slot n := by
  rw [State.updateStation_frame]
  rfl

@[simp] theorem State.updateStation_link (s : State) (l : Line) (a : StationAddr) (f : Station → Station) (k : Line) :
    (s.updateStation l a f).link k = s.link k := by
  rw [State.updateStation_frame]
  rfl

/-- Settles O44: the whole effect of each verdict, by the Station Table first and then the Slot Table and the engine. -/
theorem completeReplyReachesItsVerdict : Obligations.CompleteReplyReachesItsVerdict := by
  intro s l n p data hs hmode hstate hn hp hphase hpending ht hr k x hcount hlast v t stored
  have hexec : exec (.characterReceived l (BitVec.ofBool true ++ BitVec.ofBool false ++ data)) s =
      .next (s.characterDelivered l (BitVec.ofBool true ++ BitVec.ofBool false ++ data)).drive :=
    happening_of_running hs (State.characterDelivered · l _)
  have hnotFirst : k.charCount ≠ 0 := by omega
  have hearly : earlyVerdict (k.charCount == 0) x.station (BitVec.ofBool true ++ BitVec.ofBool false ++ data) = none := by
    rw [earlyVerdict_append, if_neg (by simp [Garbles, hnotFirst]), if_neg (by simp [hnotFirst])]
  have hdelivered : k.delivered (BitVec.ofBool true ++ BitVec.ofBool false ++ data) =
      { k with receiver := .armed, quietTime := 1, gap := 0 } := by
    rw [Link.delivered_append, quietMarks_of_marker_zero]
    rfl
  have hbroadcast : (s.engine l).phase ≠ some .broadcast := by simpa [hp] using hphase
  have hjudged : s.characterDelivered l (BitVec.ofBool true ++ BitVec.ofBool false ++ data) =
      (s.setLink l { k with receiver := .armed, quietTime := 1, gap := 0, charCount := k.charCount + 1 }).verdict l v := by
    rw [State.characterDelivered_of_taken _ hmode ht hr hstate hn hp hearly, hdelivered, sampleData_append]
    exact State.takeCharacter_of_last s l x p data hcount hlast
  have hengine : t.engine l = s.engine l := State.updateStation_engine ..
  have hslot : t.slot n = x := State.updateStation_slot ..
  have hlink : t.link l = { k with receiver := .armed, quietTime := 1, gap := 0, charCount := k.charCount + 1 } :=
    (State.updateStation_link ..).trans (State.setLink_link_same ..)
  have hstored : released l (t.setSlot n { t.slot n with replyLength := some (t.link l).stored }) = stored := by
    rw [hslot, hlink]
    rfl
  have hverdict := State.verdict_of_judged (s := s.setLink l
    { k with receiver := .armed, quietTime := 1, gap := 0, charCount := k.charCount + 1 }) hn hpending hbroadcast v
  change _ = (t.modEngine l Engine.stopWaiting).actOnVerdict l n v at hverdict
  rw [hexec, hjudged, hverdict]
  clear_value v
  cases v with
  | goodReply => rw [State.actOnVerdict_goodReply, hstored]
  | replyTooLong => rw [State.actOnVerdict_replyTooLong, hstored]
  | goodAck =>
    rw [State.actOnVerdict_goodAck, hengine, hlink]
    rfl
  | failed f => rw [State.actOnVerdict_failed]

end Sys2Proof.Machine
end

/-! ### The characters of a reply before its last (R8 to R10, R53, R76) -/

section
namespace Sys2Proof.Machine

/-- The next character of the reply is one of its payload (R9). -/
abbrev Link.PayloadNext (k : Link) : Prop := 4 ≤ k.charCount + 1 ∧ k.charCount + 1 ≤ 3 + k.length.toNat

/-- The next character of the reply is stored: payload, in phase REQUEST, with room left (R53). -/
abbrev Link.StoresNext (k : Link) (p : Phase) (room : Nat) : Prop := k.PayloadNext ∧ p = .request ∧ k.stored < room

/-- The link once a character before the second check character is taken (R76, step 4). -/
def Link.taken (k : Link) (p : Phase) (room : Nat) (b : Byte) : Link :=
  { k with charCount := k.charCount + 1,
           check := if k.charCount + 1 ≤ 3 ∨ k.PayloadNext then crcByte k.check b else k.check,
           control := if k.charCount + 1 = 2 then b else k.control,
           length := if k.charCount + 1 = 3 then b else k.length,
           checkHigh := if 4 ≤ k.charCount + 1 ∧ k.charCount + 1 = 4 + k.length.toNat then b else k.checkHigh,
           stored := if k.StoresNext p room then k.stored + 1 else k.stored }

theorem State.setLink_putChainByte (s : State) (l : Line) (k : Link) (chain : List BlockNo) (i : Nat) (b : Byte) :
    (s.setLink l k).putChainByte chain i b = (s.putChainByte chain i b).setLink l k := by
  unfold State.putChainByte
  split <;> rfl

/-- A character taken without a verdict is counted, and the gap is watched (R76, R77). -/
theorem State.tookCharacter_setLink (s : State) (l : Line) (k k' : Link) :
    (s.setLink l k).tookCharacter l k' =
      (s.setLink l { k' with charCount := k'.charCount + 1 }).setEngine l { s.engine l with gapWatch := true } := by
  rw [State.tookCharacter, State.setLink_setLink]
  rfl

/-- The state with the next character of the reply stored, if it is to be (R53). -/
def State.storeNext (s : State) (k : Link) (x : Slot) (p : Phase) (b : Byte) : State :=
  if k.StoresNext p x.replyRoom then s.putChainByte x.replyChain k.stored b else s

/-- Every character before the second check character is taken by its place. -/
theorem State.takeCharacter_of_more (s : State) (l : Line) (k : Link) (x : Slot) (p : Phase) (b : Byte)
    (hmore : 3 < k.charCount + 1 → k.charCount + 1 ≤ 4 + k.length.toNat) :
    (s.setLink l k).takeCharacter l x p b =
      ((s.storeNext k x p b).setLink l (k.taken p x.replyRoom b)).setEngine l { s.engine l with gapWatch := true } := by
  unfold State.takeCharacter State.storeNext
  dsimp only
  rw [State.setLink_link_same]
  obtain hfirst | hsecond | hthird | hpayload | hcheck : k.charCount + 1 = 1 ∨ k.charCount + 1 = 2 ∨ k.charCount + 1 = 3 ∨
      k.PayloadNext ∨ 4 ≤ k.charCount + 1 ∧ k.charCount + 1 = 4 + k.length.toNat := by
    simp only [Link.PayloadNext]
    omega
  · simp [Link.taken, Link.StoresNext, Link.PayloadNext, hfirst, State.tookCharacter_setLink]
  · simp [Link.taken, Link.StoresNext, Link.PayloadNext, hsecond, State.tookCharacter_setLink]
  · simp [Link.taken, Link.StoresNext, Link.PayloadNext, hthird, State.tookCharacter_setLink]
  · obtain ⟨hfour, hinside⟩ := hpayload
    rw [if_neg (by omega), if_neg (by omega), if_neg (by omega), if_pos hinside]
    have hcontrol : k.charCount + 1 ≠ 2 := by omega
    have hlength : k.charCount + 1 ≠ 3 := by omega
    have hcheck : k.charCount + 1 ≠ 4 + k.length.toNat := by omega
    by_cases hstores : p = .request ∧ k.stored < x.replyRoom
    · rw [if_pos hstores, if_pos (show k.StoresNext p x.replyRoom from ⟨⟨hfour, hinside⟩, hstores⟩), State.setLink_putChainByte,
        State.tookCharacter_setLink, State.engine, State.putChainByte_engines]
      simp [Link.taken, Link.StoresNext, Link.PayloadNext, hfour, hinside, hstores, hcontrol, hlength, hcheck, State.engine]
    · rw [if_neg hstores, if_neg (show ¬ k.StoresNext p x.replyRoom from fun h => hstores h.2),
        State.tookCharacter_setLink]
      simp [Link.taken, Link.StoresNext, Link.PayloadNext, hfour, hinside, hstores, hcontrol, hlength, hcheck]
  · obtain ⟨hfour, hlast⟩ := hcheck
    rw [if_neg (by omega), if_neg (by omega), if_neg (by omega), if_neg (by omega), if_pos hlast]
    have hfed : ¬ 4 + k.length.toNat ≤ 3 := by omega
    have hcontrol : 4 + k.length.toNat ≠ 2 := by omega
    have hlength : 4 + k.length.toNat ≠ 3 := by omega
    simp [Link.taken, Link.StoresNext, Link.PayloadNext, hlast, hfed, hcontrol, hlength, State.tookCharacter_setLink]

/-- What every address reads as once the next character is stored (R53). -/
theorem State.storeNext_read (s : State) (k : Link) (x : Slot) (p : Phase) (b : Byte) (h : Memory.wf s.pool.mem = true)
    (a : Nat) :
    Memory.read (s.storeNext k x p b).pool.mem a =
      if k.StoresNext p x.replyRoom ∧ chainAddress x.replyChain k.stored = some a then b
      else Memory.read s.pool.mem a := by
  unfold State.storeNext
  by_cases hstores : k.StoresNext p x.replyRoom
  · rw [if_pos hstores, State.putChainByte_read s x.replyChain k.stored b h]
    exact if_congr (and_iff_right hstores).symm rfl rfl
  · rw [if_neg hstores, if_neg fun hboth => hstores hboth.1]

/-- Storing the next character changes the memory alone. -/
theorem State.storeNext_eq (s : State) (k : Link) (x : Slot) (p : Phase) (b : Byte) :
    s.storeNext k x p b = { s with pool := { s.pool with mem := (s.storeNext k x p b).pool.mem } } := by
  unfold State.storeNext
  split
  · exact State.putChainByte_eq s x.replyChain k.stored b
  · rfl

/-- A sound character with the right marker gives no verdict of its own, and a first one is a good address (R76). -/
theorem earlyVerdict_of_good (count : Nat) (station : StationAddr) (data : Byte)
    (haddress : count = 0 → data.toNat = 128 + station.val) :
    earlyVerdict (count == 0) station (BitVec.ofBool true ++ BitVec.ofBool (decide (count = 0)) ++ data) = none := by
  have hsmall : station.val < 32 := station.isLt
  rw [earlyVerdict_append, if_neg, if_neg]
  · rintro ⟨hfirst, hother⟩
    have := haddress hfirst
    omega
  · rintro (hbroken | ⟨hfirst, hmarker⟩ | ⟨hlater, hmarker⟩ | ⟨hfirst, hbits⟩)
    · exact Bool.noConfusion hbroken
    · simp [hfirst] at hmarker
    · simp [hlater] at hmarker
    · have hvalue := haddress hfirst
      simp only [BitVec.getLsbD, Nat.testBit_eq_decide_div_mod_eq, decide_eq_false_iff_not, decide_eq_true_iff] at hbits
      omega

/-- Settles O42: the character is taken by its place, and its byte is stored in the chain alone. -/
theorem replyCharacterIsTaken : Obligations.ReplyCharacterIsTaken := by
  intro s l n p data c hs hmode hstate hn hp ht hr hmem k length hcount haddress hmore samples payload storing
  obtain rfl : c = k.charCount + 1 := hcount.symm
  have hexec : exec (.characterReceived l samples) s = .next (s.characterDelivered l samples).drive :=
    happening_of_running hs (State.characterDelivered · l _)
  have hmarker : samples = BitVec.ofBool true ++ BitVec.ofBool (decide (k.charCount = 0)) ++ data := by
    simp [samples]
  have hearly : earlyVerdict (k.charCount == 0) (s.slot n).station samples = none := by
    rw [hmarker]
    exact earlyVerdict_of_good k.charCount (s.slot n).station data fun h => haddress (by omega)
  have hdata : sampleData samples = data := sampleData_append true _ data
  have hdelivered : k.delivered samples = { k with receiver := .armed, quietTime := quietMarks 10 samples, gap := 0 } :=
    Link.delivered_append k true _ data
  have htaken : s.characterDelivered l samples = _ :=
    (State.characterDelivered_of_taken samples hmode ht hr hstate hn hp hearly).trans
      (State.takeCharacter_of_more s l (k.delivered samples) (s.slot n) p (sampleData samples)
        (by rw [hdelivered]; exact hmore))
  rw [hdelivered, hdata, State.storeNext_eq] at htaken
  refine ⟨_, hexec, ?_, ?_, fun a => ?_, ?_⟩
  · rw [htaken]
    rfl
  · rw [htaken]
    rfl
  · rw [htaken]
    exact State.storeNext_read s _ (s.slot n) p data hmem a
  · rw [htaken]
    rfl

end Sys2Proof.Machine
end

/-! ### Commands that the checks refuse (R57, R59, R145) -/

section
namespace Sys2Proof.Machine

/-! #### The request that good parameter bytes ask for (section 8.3) -/

theorem lineOf_val {b : Byte} (h : b.toNat ≤ 3) : (lineOf b).val = b.toNat := Nat.mod_eq_of_lt (by omega)

theorem slotOf_byteOf (n : SlotNo) : slotOf (byteOf n.val) = n := by
  apply Fin.ext
  change n.val % 256 % 16 = n.val
  omega

theorem entryOf_val {b : Byte} (h : b.toNat ≤ 15) : (entryOf b).val = b.toNat := Nat.mod_eq_of_lt (by omega)

theorem stationOf_val {b : Byte} (h : b.toNat ≤ 31) : (stationOf b).val = b.toNat := Nat.mod_eq_of_lt (by omega)

theorem toNat_le_top (b : Byte) : b.toNat ≤ 255 := Nat.le_of_lt_succ b.isLt

/-- A request whose line alone is checked is read when the line is in range. -/
theorem checked_line {b : Byte} (h : b.toNat ≤ 3) (r : Request) : checked [(1, within b 0 3)] r = .ok r :=
  (checked_eq_ok_iff _ _ _).2 ⟨rfl, by simp [within_iff, h]⟩

/-- SUBMIT with good parameter bytes asks for the line, the station, the length and the room that they give. -/
theorem parseRequest_submit {qs : List Byte} (h : GoodParams .submit qs) :
    ∃ p : SubmitParams, parseRequest .submit qs = .ok (.submit p) ∧ p.line.val = paramByte qs 1 ∧
      p.station.val = paramByte qs 2 ∧ p.requestLength = paramByte qs 6 ∧ p.replyRoom = paramByte qs 7 := by
  obtain ⟨hlength, hrange⟩ := h
  match qs, hlength with
  | [line, station, cls, tag, retry, len, room, flags], _ =>
    have hline : line.toNat ≤ 3 := of_decide_eq_true (hrange 1)
    have hstation : station.toNat ≤ 31 := of_decide_eq_true (hrange 2)
    have hcls : cls.toNat ≤ 1 := of_decide_eq_true (hrange 3)
    have hretry : retry.toNat ≤ 7 := of_decide_eq_true (hrange 5)
    have hlen : len.toNat ≤ 240 := of_decide_eq_true (hrange 6)
    have hroom : room.toNat ≤ 240 := of_decide_eq_true (hrange 7)
    have hflags : flags.toNat ≤ 1 := of_decide_eq_true (hrange 8)
    refine ⟨_, (checked_eq_ok_iff _ _ _).2 ⟨rfl, ?_⟩, ?_⟩
    · simp [within_iff, hline, hstation, hcls, hretry, hlen, hroom, hflags]
    · simp [paramByte, lineOf_val, stationOf_val, hline, hstation]

/-- CANCEL with a slot's number asks for the slot. -/
theorem parseRequest_cancel (n : SlotNo) : parseRequest .cancel [byteOf n.val] = .ok (.cancel n) := by
  have hvalue : (byteOf n.val).toNat ≤ 15 := by
    change n.val % 256 ≤ 15
    omega
  exact (checked_eq_ok_iff _ _ _).2 ⟨congrArg Request.cancel (slotOf_byteOf n), by simp [within_iff, hvalue]⟩

theorem parseRequest_purge {qs : List Byte} (h : GoodParams .purge qs) :
    ∃ l : Line, parseRequest .purge qs = .ok (.purge l) ∧ l.val = paramByte qs 1 := by
  obtain ⟨hlength, hrange⟩ := h
  match qs, hlength with
  | [line], _ =>
    have hline : line.toNat ≤ 3 := of_decide_eq_true (hrange 1)
    exact ⟨lineOf line, checked_line hline _, lineOf_val hline⟩

theorem parseRequest_lineSet {qs : List Byte} (h : GoodParams .lineSet qs) :
    ∃ (l : Line) (c : LineConfig), parseRequest .lineSet qs = .ok (.lineSet l c) ∧ l.val = paramByte qs 1 := by
  obtain ⟨hlength, hrange⟩ := h
  match qs, hlength with
  | [line, divLow, divHigh, hold, timeout, gap, settle, threshold, probe], _ =>
    have hline : line.toNat ≤ 3 := of_decide_eq_true (hrange 1)
    have hdivisor : 8 ≤ divHigh.toNat * 256 + divLow.toNat := by
      have : 8 ≤ divLow.toNat + 256 * divHigh.toNat := of_decide_eq_true (hrange 2)
      omega
    have hhold : hold.toNat ≤ 15 := of_decide_eq_true (hrange 4)
    have htimeout : 1 ≤ timeout.toNat := of_decide_eq_true (hrange 5)
    have hgap : 1 ≤ gap.toNat := of_decide_eq_true (hrange 6)
    have hsettle : 11 ≤ settle.toNat := of_decide_eq_true (hrange 7)
    have hthreshold : 1 ≤ threshold.toNat ∧ threshold.toNat ≤ 15 := of_decide_eq_true (hrange 8)
    have hprobe : 1 ≤ probe.toNat ∧ probe.toNat ≤ 15 := of_decide_eq_true (hrange 9)
    refine ⟨_, _, (checked_eq_ok_iff _ _ _).2 ⟨rfl, ?_⟩, ?_⟩
    · simp [within_iff, wordOf_toNat, toNat_le_top, hline, hdivisor, hhold, htimeout, hgap, hsettle, hthreshold, hprobe]
    · simp [paramByte, lineOf_val, hline]

theorem parseRequest_lineOn {qs : List Byte} (h : GoodParams .lineOn qs) :
    ∃ l : Line, parseRequest .lineOn qs = .ok (.lineOn l) ∧ l.val = paramByte qs 1 := by
  obtain ⟨hlength, hrange⟩ := h
  match qs, hlength with
  | [line], _ =>
    have hline : line.toNat ≤ 3 := of_decide_eq_true (hrange 1)
    exact ⟨lineOf line, checked_line hline _, lineOf_val hline⟩

/-- LINE_OFF with good parameter bytes is a drain when its last byte is 0 (section 11.5). -/
theorem parseRequest_lineOff {ps : List Byte} {last : Byte} (h : GoodParams .lineOff (ps ++ [last])) :
    ∃ l : Line, parseRequest .lineOff (ps ++ [last]) = .ok (.lineOff l (if last = 0 then .drain else .abort)) ∧
      l.val = paramByte (ps ++ [last]) 1 := by
  obtain ⟨hlength, hrange⟩ := h
  rw [List.length_append] at hlength
  match ps, hlength with
  | [line], _ =>
    have hline : line.toNat ≤ 3 := of_decide_eq_true (hrange 1)
    have hkind : last.toNat ≤ 1 := of_decide_eq_true (hrange 2)
    refine ⟨_, (checked_eq_ok_iff _ _ _).2 ⟨rfl, ?_⟩, ?_⟩
    · simp [within_iff, hline, hkind]
    · simp [paramByte, lineOf_val, hline]

theorem parseRequest_lineReset {qs : List Byte} (h : GoodParams .lineReset qs) :
    ∃ l : Line, parseRequest .lineReset qs = .ok (.lineReset l) ∧ l.val = paramByte qs 1 := by
  obtain ⟨hlength, hrange⟩ := h
  match qs, hlength with
  | [line], _ =>
    have hline : line.toNat ≤ 3 := of_decide_eq_true (hrange 1)
    exact ⟨lineOf line, checked_line hline _, lineOf_val hline⟩

theorem parseRequest_pollSet {qs : List Byte} (h : GoodParams .pollSet qs) :
    ∃ (l : Line) (e : EntryNo) (d : PollDef), parseRequest .pollSet qs = .ok (.pollSet l e d) ∧
      l.val = paramByte qs 1 ∧ e.val = paramByte qs 2 := by
  obtain ⟨hlength, hrange⟩ := h
  match qs, hlength with
  | [line, entry, station, item, room, policy, retry, enable], _ =>
    have hline : line.toNat ≤ 3 := of_decide_eq_true (hrange 1)
    have hentry : entry.toNat ≤ 15 := of_decide_eq_true (hrange 2)
    have hstation : 1 ≤ station.toNat ∧ station.toNat ≤ 31 := of_decide_eq_true (hrange 3)
    have hroom : room.toNat ≤ 240 := of_decide_eq_true (hrange 5)
    have hpolicy : policy.toNat ≤ 2 := of_decide_eq_true (hrange 6)
    have hretry : retry.toNat ≤ 7 := of_decide_eq_true (hrange 7)
    have henable : enable.toNat ≤ 1 := of_decide_eq_true (hrange 8)
    refine ⟨_, _, _, (checked_eq_ok_iff _ _ _).2 ⟨rfl, ?_⟩, ?_⟩
    · simp [within_iff, hline, hentry, hstation, hroom, hpolicy, hretry, henable]
    · simp [paramByte, lineOf_val, entryOf_val, hline, hentry]

theorem parseRequest_pollRun {qs : List Byte} (h : GoodParams .pollRun qs) :
    ∃ (l : Line) (period : Nat), parseRequest .pollRun qs = .ok (.pollRun l period) ∧ l.val = paramByte qs 1 := by
  obtain ⟨hlength, hrange⟩ := h
  match qs, hlength with
  | [line, periodLow, periodHigh], _ =>
    have hline : line.toNat ≤ 3 := of_decide_eq_true (hrange 1)
    have hperiod : 1 ≤ periodHigh.toNat * 256 + periodLow.toNat := by
      have : 1 ≤ periodLow.toNat + 256 * periodHigh.toNat := of_decide_eq_true (hrange 2)
      omega
    refine ⟨_, _, (checked_eq_ok_iff _ _ _).2 ⟨rfl, ?_⟩, ?_⟩
    · simp [within_iff, wordOf_toNat, hline, hperiod]
    · simp [paramByte, lineOf_val, hline]

theorem parseRequest_pollHalt {qs : List Byte} (h : GoodParams .pollHalt qs) :
    ∃ l : Line, parseRequest .pollHalt qs = .ok (.pollHalt l) ∧ l.val = paramByte qs 1 := by
  obtain ⟨hlength, hrange⟩ := h
  match qs, hlength with
  | [line], _ =>
    have hline : line.toNat ≤ 3 := of_decide_eq_true (hrange 1)
    exact ⟨lineOf line, checked_line hline _, lineOf_val hline⟩

theorem parseRequest_stationSet {qs : List Byte} (h : GoodParams .stationSet qs) :
    ∃ (l : Line) (a : StationAddr) (act : StationAction), parseRequest .stationSet qs = .ok (.stationSet l a act) ∧
      l.val = paramByte qs 1 := by
  obtain ⟨hlength, hrange⟩ := h
  match qs, hlength with
  | [line, station, action], _ =>
    have hline : line.toNat ≤ 3 := of_decide_eq_true (hrange 1)
    have hstation : 1 ≤ station.toNat ∧ station.toNat ≤ 31 := of_decide_eq_true (hrange 2)
    have haction : action.toNat ≤ 2 := of_decide_eq_true (hrange 3)
    refine ⟨_, _, _, (checked_eq_ok_iff _ _ _).2 ⟨rfl, ?_⟩, ?_⟩
    · simp [within_iff, hline, hstation, haction]
    · simp [paramByte, lineOf_val, hline]

/-- The line that a request names and whose absence refuses it (R57). -/
def Request.line : Request → Option Line
  | .submit p => some p.line
  | .purge l | .lineSet l _ | .lineOn l | .lineOff l _ | .lineReset l | .pollSet l _ _ | .pollRun l _ | .pollHalt l
  | .stationSet l _ _ => some l
  | _ => none

/-- A command that names a line asks, with good parameter bytes, for a request of the line in its first byte. -/
theorem parseRequest_of_namesLine {op : Opcode} {ps : List Byte} {last : Byte} {l : Line}
    (h : GoodParams op (ps ++ [last])) (hop : namesLine op = true) (hl : paramByte (ps ++ [last]) 1 = l.val) :
    ∃ r, parseRequest op (ps ++ [last]) = .ok r ∧ r.line = some l := by
  have hsame {m : Line} (hm : m.val = paramByte (ps ++ [last]) 1) : some m = some l :=
    congrArg some (Fin.ext (hm.trans hl))
  cases op with
  | submit =>
    obtain ⟨p, hparsed, hline, -⟩ := parseRequest_submit h
    exact ⟨_, hparsed, hsame hline⟩
  | purge =>
    obtain ⟨_, hparsed, hline⟩ := parseRequest_purge h
    exact ⟨_, hparsed, hsame hline⟩
  | lineSet =>
    obtain ⟨_, _, hparsed, hline⟩ := parseRequest_lineSet h
    exact ⟨_, hparsed, hsame hline⟩
  | lineOn =>
    obtain ⟨_, hparsed, hline⟩ := parseRequest_lineOn h
    exact ⟨_, hparsed, hsame hline⟩
  | lineOff =>
    obtain ⟨_, hparsed, hline⟩ := parseRequest_lineOff h
    exact ⟨_, hparsed, hsame hline⟩
  | lineReset =>
    obtain ⟨_, hparsed, hline⟩ := parseRequest_lineReset h
    exact ⟨_, hparsed, hsame hline⟩
  | pollSet =>
    obtain ⟨_, _, _, hparsed, hline, -⟩ := parseRequest_pollSet h
    exact ⟨_, hparsed, hsame hline⟩
  | pollRun =>
    obtain ⟨_, _, hparsed, hline⟩ := parseRequest_pollRun h
    exact ⟨_, hparsed, hsame hline⟩
  | pollHalt =>
    obtain ⟨_, hparsed, hline⟩ := parseRequest_pollHalt h
    exact ⟨_, hparsed, hsame hline⟩
  | stationSet =>
    obtain ⟨_, _, _, hparsed, hline⟩ := parseRequest_stationSet h
    exact ⟨_, hparsed, hsame hline⟩
  | cancel => cases hop
  | query => cases hop
  | queueSet => cases hop

/-! #### The write of the last parameter byte (R137) -/

/-- Whatever its row, the write of the last parameter byte is a write to COMMAND. -/
theorem exec_commandRow (op : Opcode) (ps : List Byte) (last : Byte) (s : State) :
    exec (commandRow op ps last) s = happening (fun t => t.writeCommand last) s := by
  cases op
  case query =>
    unfold commandRow
    dsimp only
    split_ifs <;> rfl
  all_goals rfl

/-- The state whose port has collected these parameter bytes. -/
def State.collected (s : State) (qs : List Byte) : State := { s with port := { s.port with params := qs } }

/-- The last parameter byte of a command whose ranges are good hands its request to the owning blocks. -/
theorem exec_of_request {s : State} {op : Opcode} {ps : List Byte} {last : Byte} {r : Request} (hc : Collecting s op ps)
    (hlength : (ps ++ [last]).length = op.paramCount) (hparsed : parseRequest op (ps ++ [last]) = .ok r) :
    exec (commandRow op ps last) s = .next ((s.collected (ps ++ [last])).takeRequest r).drive := by
  obtain ⟨hs, hcollect, hopcode, rfl⟩ := hc
  have hwrite : s.writeCommand last = (s.collected (s.port.params ++ [last])).takeRequest r := by
    unfold State.writeCommand
    rw [hcollect]
    dsimp only
    unfold State.takeParameter
    rw [hopcode]
    dsimp only
    rw [if_neg hlength.ge.not_gt, State.takeCommand, hparsed]
    rfl
  rw [exec_commandRow, happening_of_running hs fun t => t.writeCommand last, hwrite]

/-- A request that posts a refusal changes nothing but the port (R145). -/
theorem exec_of_refused {s : State} {op : Opcode} {ps : List Byte} {last : Byte} {r : Request} {code : ResponseCode}
    (hc : Collecting s op ps) (hlength : (ps ++ [last]).length = op.paramCount)
    (hparsed : parseRequest op (ps ++ [last]) = .ok r)
    (hrefused : (s.collected (ps ++ [last])).takeRequest r = (s.collected (ps ++ [last])).post code []) :
    exec (commandRow op ps last) s = .next (State.drive { s with port := responding s.port code [] }) := by
  rw [exec_of_request hc hlength hparsed, hrefused]
  rfl

/-! #### The checks of the owning blocks (R145, steps 2 to 5) -/

section
variable {s : State} {l : Line}

/-- A request of an ABSENT line is refused NO_LINE (R57). -/
theorem State.takeRequest_of_absent {r : Request} (hr : r.line = some l) (h : (s.engine l).mode = .absent) :
    s.takeRequest r = s.post .noLine [] := by
  cases r
  case lineOff =>
    cases hr
    simp only [State.takeRequest, State.takeLineOff, h]
  case cancel | queryPool | querySlot | queryLine | queryStation | queryChanges | queryEntry | queueSet => cases hr
  all_goals
    cases hr
    exact if_pos h

theorem State.ifPresent_of_present (h : (s.engine l).mode ≠ .absent) (t : State) : s.ifPresent l t = t := if_neg h

theorem State.takeSubmit_of_not_on {p : SubmitParams} (h : (s.engine p.line).mode ≠ .absent)
    (hon : (s.engine p.line).mode ≠ .on) : s.takeSubmit p = s.post .lineOff [] :=
  (State.ifPresent_of_present h _).trans (if_pos hon)

theorem State.takePollRun_of_not_on (h : (s.engine l).mode ≠ .absent) (hon : (s.engine l).mode ≠ .on) (period : Nat) :
    s.takePollRun l period = s.post .lineOff [] :=
  (State.ifPresent_of_present h _).trans (if_neg hon)

theorem State.takeLineSet_of_not_off (h : (s.engine l).mode ≠ .absent) (hoff : (s.engine l).mode ≠ .off)
    (c : LineConfig) : s.takeLineSet l c = s.post .lineBusy [] :=
  (State.ifPresent_of_present h _).trans (if_neg hoff)

theorem State.takeLineOn_of_not_off (h : (s.engine l).mode ≠ .absent) (hoff : (s.engine l).mode ≠ .off) :
    s.takeLineOn l = s.post .lineBusy [] :=
  (State.ifPresent_of_present h _).trans (if_neg hoff)

theorem State.takeLineOff_of_off (h : (s.engine l).mode = .off) (k : DrainKind) :
    s.takeLineOff l k = s.post .lineOff [] := by
  simp only [State.takeLineOff, h]

/-- A drain is refused LINE_BUSY unless it is turned into an abort (R59). -/
theorem State.takeLineOff_of_draining (h : (s.engine l).mode = .draining) {k : DrainKind}
    (hk : ¬ ((s.engine l).drainKind = some .drain ∧ k = .abort)) : s.takeLineOff l k = s.post .lineBusy [] := by
  simp only [State.takeLineOff, h, if_neg hk]

theorem State.takeCancel_of_ended {n : SlotNo} (h : (s.slot n).state = .free ∨ (s.slot n).state = .done) :
    s.takeCancel n = s.post .notCancellable [] := by
  obtain hfree | hdone := h
  · simp only [State.takeCancel, hfree]
  · simp only [State.takeCancel, hdone]

theorem State.takePollSet_of_live {e : EntryNo} (h : (s.engine l).mode ≠ .absent) (hlive : (s.entry l e).live ≠ none)
    (d : PollDef) : s.takePollSet l e d = s.post .entryBusy [] :=
  (State.ifPresent_of_present h _).trans (if_pos (Option.isSome_iff_ne_none.2 hlive))

/-- The search for a FREE slot fails exactly when none is FREE. -/
theorem State.lowestFree_eq_none_iff : s.lowestFree = none ↔ ∀ n, (s.slot n).state ≠ .free := by
  simp [State.lowestFree, Slot.isFree]

theorem State.takeSubmit_of_noSlot {p : SubmitParams} (h : (s.engine p.line).mode = .on)
    (hnone : ∀ n, (s.slot n).state ≠ .free) : s.takeSubmit p = s.post .noSlot [] := by
  rw [State.takeSubmit, State.ifPresent_of_present (by simp [h]), if_neg (not_not.2 h),
    State.lowestFree_eq_none_iff.2 hnone]

/-- The blocks that a SUBMIT needs, its reply having none for station 0 (R23, R24). -/
theorem SubmitParams.blocks_eq (p : SubmitParams) :
    p.blocks = (p.requestLength + 15) / 16 + if p.station.val = 0 then 0 else (p.replyRoom + 15) / 16 := by
  have hzero : p.station = 0 ↔ p.station.val = 0 := Fin.ext_iff
  unfold SubmitParams.blocks SubmitParams.room
  simp only [hzero]
  split <;> rfl

theorem State.takeSubmit_of_noRoom {p : SubmitParams} (h : (s.engine p.line).mode = .on)
    (hfree : ∃ n, (s.slot n).state = .free) (hroom : s.freeCount < p.blocks) : s.takeSubmit p = s.post .noRoom [] := by
  have hsome : s.lowestFree ≠ none := fun hnone => by
    obtain ⟨n, hn⟩ := hfree
    exact State.lowestFree_eq_none_iff.1 hnone n hn
  obtain ⟨n, hn⟩ := Option.ne_none_iff_exists'.1 hsome
  rw [State.takeSubmit, State.ifPresent_of_present (by simp [h]), if_neg (not_not.2 h), hn]
  exact if_pos hroom

end

/-- SUBMIT and POLL_RUN of a line that is neither ABSENT nor ON are refused LINE_OFF (R59). -/
theorem lineOff_of_not_on {s : State} {op : Opcode} {ps : List Byte} {last : Byte} {l : Line} (hc : Collecting s op ps)
    (hgood : GoodParams op (ps ++ [last])) (hl : paramByte (ps ++ [last]) 1 = l.val) (h : (s.engine l).mode ≠ .absent)
    (hon : (s.engine l).mode ≠ .on) (hop : op = .submit ∨ op = .pollRun) :
    exec (commandRow op ps last) s = .next (State.drive { s with port := responding s.port .lineOff [] }) := by
  obtain rfl | rfl := hop
  · obtain ⟨p, hparsed, hline, -⟩ := parseRequest_submit hgood
    obtain rfl : p.line = l := Fin.ext (hline.trans hl)
    exact exec_of_refused hc hgood.1 hparsed (State.takeSubmit_of_not_on h hon)
  · obtain ⟨m, period, hparsed, hline⟩ := parseRequest_pollRun hgood
    obtain rfl : m = l := Fin.ext (hline.trans hl)
    exact exec_of_refused hc hgood.1 hparsed (State.takePollRun_of_not_on (s := s.collected (ps ++ [last])) h hon period)

/-- LINE_SET and LINE_ON of a line that is neither ABSENT nor OFF are refused LINE_BUSY (R59). -/
theorem lineBusy_of_not_off {s : State} {op : Opcode} {ps : List Byte} {last : Byte} {l : Line} (hc : Collecting s op ps)
    (hgood : GoodParams op (ps ++ [last])) (hl : paramByte (ps ++ [last]) 1 = l.val) (h : (s.engine l).mode ≠ .absent)
    (hoff : (s.engine l).mode ≠ .off) (hop : op = .lineSet ∨ op = .lineOn) :
    exec (commandRow op ps last) s = .next (State.drive { s with port := responding s.port .lineBusy [] }) := by
  obtain rfl | rfl := hop
  · obtain ⟨m, c, hparsed, hline⟩ := parseRequest_lineSet hgood
    obtain rfl : m = l := Fin.ext (hline.trans hl)
    exact exec_of_refused hc hgood.1 hparsed (State.takeLineSet_of_not_off (s := s.collected (ps ++ [last])) h hoff c)
  · obtain ⟨m, hparsed, hline⟩ := parseRequest_lineOn hgood
    obtain rfl : m = l := Fin.ext (hline.trans hl)
    exact exec_of_refused hc hgood.1 hparsed (State.takeLineOn_of_not_off h hoff)

/-- LINE_OFF in a drain turns it into an abort only when the line drains and its last byte asks for an abort (R59). -/
theorem not_drain_to_abort {kind : Option DrainKind} {last : Byte} (h : kind = some .abort ∨ last = 0) :
    ¬ (kind = some .drain ∧ (if last = 0 then DrainKind.drain else .abort) = .abort) := by
  rintro ⟨hdrain, habort⟩
  obtain rfl | rfl := h
  · cases hdrain
  · cases habort

/-- A parameter byte before the last is among the bytes collected before it. -/
theorem paramByte_append {ps : List Byte} {i : Nat} (h : i - 1 < ps.length) (qs : List Byte) :
    paramByte (ps ++ qs) i = paramByte ps i := by
  rw [paramByte, List.getD_append _ _ _ _ h, paramByte]

/-- Settles O10: each check of the owning blocks posts its code, in the order of R145. -/
theorem lineSlotAndRoomChecksRefuse : Obligations.LineSlotAndRoomChecksRefuse := by
  refine ⟨fun s op ps last l hc hgood hop hl => ⟨fun habsent => ?_, fun hmode hop => ?_, fun hmode hop => ?_,
    fun hoff hop => ?_, fun hdraining hop hkind => ?_⟩, fun s n hc hended => ?_,
    fun s ps last l e hc hgood hl he hpresent hlive => ?_, fun s ps last l hc hgood hl hon => ?_⟩
  · obtain ⟨r, hparsed, hline⟩ := parseRequest_of_namesLine hgood hop hl
    exact exec_of_refused hc hgood.1 hparsed (State.takeRequest_of_absent (s := s.collected (ps ++ [last])) hline habsent)
  · exact lineOff_of_not_on hc hgood hl (fun h => by simp [h] at hmode) (fun h => by simp [h] at hmode) hop
  · exact lineBusy_of_not_off hc hgood hl (fun h => by simp [h] at hmode) (fun h => by simp [h] at hmode) hop
  · subst hop
    obtain ⟨m, hparsed, hline⟩ := parseRequest_lineOff hgood
    obtain rfl : m = l := Fin.ext (hline.trans hl)
    exact exec_of_refused hc hgood.1 hparsed (State.takeLineOff_of_off (s := s.collected (ps ++ [last])) hoff _)
  · subst hop
    obtain ⟨m, hparsed, hline⟩ := parseRequest_lineOff hgood
    obtain rfl : m = l := Fin.ext (hline.trans hl)
    exact exec_of_refused hc hgood.1 hparsed
      (State.takeLineOff_of_draining (s := s.collected (ps ++ [last])) hdraining (not_drain_to_abort hkind))
  · have hparsed : parseRequest .cancel ([] ++ [byteOf n.val]) = .ok (.cancel n) :=
      parseRequest_cancel n
    exact exec_of_refused hc rfl hparsed (State.takeCancel_of_ended hended)
  · have hlength : ps.length = 7 := by simpa [Opcode.paramCount] using hgood.1
    obtain ⟨m, f, d, hparsed, hline, hentry⟩ := parseRequest_pollSet hgood
    rw [paramByte_append (by omega)] at hline hentry
    obtain rfl : m = l := Fin.ext (hline.trans hl)
    obtain rfl : f = e := Fin.ext (hentry.trans he)
    exact exec_of_refused hc hgood.1 hparsed (State.takePollSet_of_live hpresent hlive d)
  · have hlength : ps.length = 7 := by simpa [Opcode.paramCount] using hgood.1
    obtain ⟨p, hparsed, hline, hstation, hrequest, hroom⟩ := parseRequest_submit hgood
    rw [paramByte_append (by omega)] at hline hstation hrequest hroom
    obtain rfl : p.line = l := Fin.ext (hline.trans hl)
    refine ⟨fun hnone => ?_, fun hfree hless => ?_⟩
    · exact exec_of_refused hc hgood.1 hparsed (State.takeSubmit_of_noSlot hon hnone)
    · refine exec_of_refused hc hgood.1 hparsed (State.takeSubmit_of_noRoom hon hfree ?_)
      rw [SubmitParams.blocks_eq, hstation, hrequest, hroom]
      exact hless

end Sys2Proof.Machine
end

/-! # The Station Table and the lines (chapters 4 to 6) -/

/-! ### What a station update does to the change sets (R88, R95, R96) -/

section
namespace Sys2Proof.Machine

/-- OFFLINE is the first derived state of R88: the failure count alone decides it. -/
theorem Station.derived_eq_offline_iff (x : Station) (threshold : Nat) :
    x.derived threshold = .offline ↔ threshold ≤ x.failureCount := by
  unfold Station.derived
  split
  · next h => exact iff_of_true rfl h
  · next h =>
    refine iff_of_false ?_ h
    split_ifs <;> nofun

theorem crossesOffline_iff (old new : Derived) :
    crossesOffline old new = true ↔ ¬ (old = .offline ↔ new = .offline) := by
  rw [crossesOffline, bne_iff_ne, Ne, Bool.eq_iff_iff, beq_iff_eq, beq_iff_eq]

/-- A station's map bit is the one at its address (R96). -/
theorem stationBit_getLsbD (a : StationAddr) (i : Nat) : (stationBit a).getLsbD i = true ↔ i = a.val := by
  have ha : a.val < 32 := a.isLt
  rw [stationBit, BitVec.getLsbD_shiftLeft, BitVec.getLsbD_one]
  simp only [Bool.and_eq_true, Bool.not_eq_true', decide_eq_true_eq, decide_eq_false_iff_not]
  omega

/-- An update leaves the Station Table's part for every other line alone. -/
theorem State.updateStation_stationLine_ne (s : State) {l k : Line} (a : StationAddr) (f : Station → Station) (h : l ≠ k) :
    (s.updateStation l a f).stationLine k = s.stationLine k := by
  unfold State.updateStation
  split
  · rfl
  · exact State.setStationLine_stationLine_ne _ _ _ h

/-- Every change set after an update: the station joins its line's exactly when it crosses the OFFLINE boundary. -/
theorem State.mem_changes_updateStation (s : State) (l k : Line) {a : StationAddr} (ha : a ≠ 0) (f : Station → Station)
    (i : Nat) :
    ((s.updateStation l a f).stationLine k).changes.getLsbD i = true ↔
      (s.stationLine k).changes.getLsbD i = true ∨ (k = l ∧ i = a.val ∧
        ¬ ((s.station l a).derived (s.threshold l) = .offline ↔
          (f (s.station l a)).derived (s.threshold l) = .offline)) := by
  by_cases hk : k = l
  · subst hk
    rw [State.updateStation_changes s k a f (fun h => ha (Fin.ext h)), ← crossesOffline_iff]
    split
    · next hcross => simp only [BitVec.getLsbD_or, Bool.or_eq_true, stationBit_getLsbD, hcross, and_true, true_and]
    · next hstays => simp only [hstays, and_false, or_false, Bool.false_eq_true]
  · rw [State.updateStation_stationLine_ne s a f (Ne.symm hk)]
    simp only [hk, false_and, or_false]

/-- Records and change sets are read from the Station Table alone. -/
theorem State.station_congr {s t : State} (h : t.stations = s.stations) : t.station = s.station := by
  unfold State.station State.stationLine
  rw [h]

theorem State.stationLine_congr {s t : State} (h : t.stations = s.stations) : t.stationLine = s.stationLine := by
  unfold State.stationLine
  rw [h]

/-- An update changes the record of its own station alone (R87). -/
theorem State.updateStation_station_same (s : State) (l : Line) {a : StationAddr} (ha : a ≠ 0) (f : Station → Station) :
    (s.updateStation l a f).station l a = f (s.station l a) := by
  rw [State.updateStation_station, if_pos ⟨rfl, rfl, ha⟩]

theorem State.updateStation_station_ne (s : State) {l k : Line} {a b : StationAddr} (f : Station → Station)
    (h : k ≠ l ∨ b ≠ a) : (s.updateStation l a f).station k b = s.station k b := by
  rw [State.updateStation_station, if_neg fun ⟨hk, hb, _⟩ => h.elim (· hk) (· hb)]

/-! ### Verdicts on a station (R89) -/

/-- Settles O51: a verdict is a station update, and R89's table names the record it writes. -/
theorem verdictUpdatesTheStation : Obligations.VerdictUpdatesTheStation := by
  intro s l a v ha old new threshold t
  have hnew : old.afterVerdict v = new := by
    cases v with
    | failed f => cases f <;> rfl
    | _ => rfl
  refine ⟨?_, fun k b => s.updateStation_station_ne _, fun k i => ?_, s.updateStation_frame ..⟩
  · rw [← hnew]
    exact s.updateStation_station_same l ha _
  · have hjoins := s.mem_changes_updateStation l k ha (fun x => x.afterVerdict v) i
    rw [Station.derived_eq_offline_iff, Station.derived_eq_offline_iff] at hjoins
    rw [← hnew]
    exact hjoins

/-! ### STATION_SET (R93, R145, R158) -/

theorem lineOf_byteOf (l : Line) : lineOf (byteOf l.val) = l := by
  apply Fin.ext
  change l.val % 256 % 4 = l.val
  omega

theorem stationOf_byteOf (a : StationAddr) : stationOf (byteOf a.val) = a := by
  apply Fin.ext
  change a.val % 256 % 32 = a.val
  omega

/-- The bytes of a line, of a station from 1 to 31 and of an action ask for that STATION_SET. -/
theorem parseRequest_stationSet_bytes (l : Line) {a : StationAddr} (ha : a ≠ 0) (action : Fin 3) :
    parseRequest .stationSet [byteOf l.val, byteOf a.val, byteOf action.val] =
      .ok (.stationSet l a (StationAction.ofByte (byteOf action.val))) := by
  have hsmall (n : Nat) (hn : n < 256) : (byteOf n).toNat = n := Nat.mod_eq_of_lt hn
  have hpos : a.val ≠ 0 := fun h => ha (Fin.ext h)
  refine (checked_eq_ok_iff _ _ _).2 ⟨by rw [lineOf_byteOf, stationOf_byteOf], ?_⟩
  simp only [List.forall_mem_cons, within_iff]
  rw [hsmall l.val (by omega), hsmall a.val (by omega), hsmall action.val (by omega)]
  exact ⟨by omega, by omega, by omega, nofun⟩

/-- The bytes that the port has collected play no part in a station update. -/
theorem State.collected_updateStation (s : State) (qs : List Byte) (l : Line) (a : StationAddr) (f : Station → Station) :
    (s.collected qs).updateStation l a f = (s.updateStation l a f).collected qs := by
  unfold State.updateStation
  split <;> rfl

/-- The record after each action of STATION_SET, by the code of the action (R93, section 11.5). -/
theorem StationAction.apply_ofByte (x : Station) (action : Fin 3) :
    StationAction.apply x (StationAction.ofByte (byteOf action.val)) =
      match action with
      | 0 => { x with failureCount := 0 }
      | 1 => { x with sync := .unsync }
      | 2 => { x with failureCount := 15 } := by
  match action with
  | 0 => rfl
  | 1 => rfl
  | 2 => rfl

/-- On a line that is not ABSENT the command updates its station, answers DONE and writes nothing else (R158). -/
theorem exec_stationSet_of_present {s : State} {l : Line} {a : StationAddr} (ha : a ≠ 0) (action : Fin 3)
    (hc : Collecting s .stationSet [byteOf l.val, byteOf a.val]) (hpresent : (s.engine l).mode ≠ .absent) :
    ∃ t : State, exec (.stationSet (byteOf action.val)) s = .next t ∧
      t.stations = (s.updateStation l a fun x =>
        StationAction.apply x (StationAction.ofByte (byteOf action.val))).stations ∧
      t = { s with stations := t.stations, port := responding s.port .done [], pins := t.pins } := by
  have hexec : exec (.stationSet (byteOf action.val)) s = _ :=
    exec_of_request hc rfl (parseRequest_stationSet_bytes l ha action)
  rw [State.takeRequest, State.takeStationSet, State.ifPresent_of_present (s := s.collected (_ ++ _)) hpresent,
    State.collected_updateStation] at hexec
  refine ⟨_, hexec, ?_, ?_⟩
  · rw [State.drive_stations, State.postDone]
    rfl
  · rw [s.updateStation_frame]
    rfl

/-- Settles O20: an ABSENT line refuses; on any other the command is a station update by its action. -/
theorem stationSetAppliesItsAction : Obligations.StationSetAppliesItsAction := by
  intro s l a action ha hc
  refine ⟨fun habsent => ?_, fun hpresent => ?_⟩
  · exact exec_of_refused hc rfl (parseRequest_stationSet_bytes l ha action)
      (State.takeRequest_of_absent (s := s.collected _) rfl habsent)
  · intro old new threshold crosses
    have hnew : StationAction.apply old (StationAction.ofByte (byteOf action.val)) = new :=
      StationAction.apply_ofByte old action
    obtain ⟨t, hexec, hstations, hrest⟩ := exec_stationSet_of_present ha action hc hpresent
    refine ⟨t, hexec, ?_, fun k b hkb => ?_, fun k n => ?_, hrest⟩
    · rw [State.station_congr hstations, State.updateStation_station_same s l ha, ← hnew]
    · rw [State.station_congr hstations, State.updateStation_station_ne s _ hkb]
    · dsimp only [crosses]
      rw [State.stationLine_congr hstations, ← hnew]
      exact s.mem_changes_updateStation l k ha _ n

end Sys2Proof.Machine
end

/-! ### A happening of one line (chapters 4 and 6, R87)

What a line's engine or scheduler does stays on the line: the relation below carries through every operation of its
happenings, as long as the slots that they write are the line's own or FREE. -/

section
namespace Sys2Proof.Machine

/-- From one state to a later one nothing has changed of the other lines: their engines, links, stations and schedulers, and
the slots that are not FREE and belong to them. -/
structure OnlyLine (l : Line) (o s : State) : Prop where
  engine : ∀ k, k ≠ l → s.engine k = o.engine k
  link : ∀ k, k ≠ l → s.link k = o.link k
  stationLine : ∀ k, k ≠ l → s.stationLine k = o.stationLine k
  sched : ∀ k, k ≠ l → s.sched k = o.sched k
  slot : ∀ n, (o.slot n).state ≠ .free → (o.slot n).line ≠ l → s.slot n = o.slot n

/-- The active slot of a line's engine is a slot of the line (R22, R68). -/
abbrev HoldsOwn (l : Line) (s : State) : Prop := ∀ n, (s.engine l).active = some n → (s.slot n).line = l

theorem OnlyLine.refl (l : Line) (s : State) : OnlyLine l s s :=
  ⟨fun _ _ => rfl, fun _ _ => rfl, fun _ _ => rfl, fun _ _ => rfl, fun _ _ _ => rfl⟩

/-- The part of a state that the lines are about. -/
def State.lineTables (s : State) := (s.slots, s.engines, s.links, s.stations, s.scheds)

section
variable {l : Line} {o s t : State} (h : OnlyLine l o s)
include h

/-- A change of anything that the lines are not about. -/
theorem OnlyLine.frame (ht : t.lineTables = s.lineTables) : OnlyLine l o t := by
  simp only [State.lineTables, Prod.mk.injEq] at ht
  obtain ⟨hslots, hengines, hlinks, hstations, hscheds⟩ := ht
  constructor
  · unfold State.engine
    rw [hengines]
    exact h.engine
  · unfold State.link
    rw [hlinks]
    exact h.link
  · rw [State.stationLine_congr hstations]
    exact h.stationLine
  · unfold State.sched
    rw [hscheds]
    exact h.sched
  · have hslot : t.slot = s.slot := by unfold State.slot; rw [hslots]
    rw [hslot]
    exact h.slot

theorem OnlyLine.setEngine (x : Engine) : OnlyLine l o (s.setEngine l x) :=
  { h with engine := fun k hk => (State.setEngine_engine_ne _ _ _ hk.symm).trans (h.engine k hk) }

theorem OnlyLine.setLink (x : Link) : OnlyLine l o (s.setLink l x) :=
  { h with link := fun k hk => (State.setLink_link_ne _ _ _ hk.symm).trans (h.link k hk) }

theorem OnlyLine.setSched (x : Scheduler) : OnlyLine l o (s.setSched l x) :=
  { h with sched := fun k hk => (State.setSched_sched_ne _ _ _ hk.symm).trans (h.sched k hk) }

theorem OnlyLine.updateStation (a : StationAddr) (f : Station → Station) : OnlyLine l o (s.updateStation l a f) := by
  have hstation (k : Line) (hk : k ≠ l) : (s.updateStation l a f).stationLine k = o.stationLine k :=
    (s.updateStation_stationLine_ne a f hk.symm).trans (h.stationLine k hk)
  rw [State.updateStation_frame] at hstation ⊢
  exact { h with stationLine := hstation }

/-- A slot that is FREE, or the line's own, is none of those that have to stay. -/
theorem OnlyLine.setSlot {n : SlotNo} (hn : (s.slot n).state = .free ∨ (s.slot n).line = l) (x : Slot) :
    OnlyLine l o (s.setSlot n x) := by
  refine { h with slot := fun m hstate hline => ?_ }
  have hsame := h.slot m hstate hline
  refine (State.setSlot_slot_ne _ _ _ fun hnm => ?_).trans hsame
  rw [hnm, hsame] at hn
  exact hn.elim hstate hline

theorem OnlyLine.putChainByte (chain : List BlockNo) (i : Nat) (b : Byte) : OnlyLine l o (s.putChainByte chain i b) := by
  rw [State.putChainByte_eq]
  exact h.frame rfl

/-! ### Slots of the line -/

section
variable {n : SlotNo} (hn : (s.slot n).line = l)
include hn

theorem OnlyLine.freeSlot : OnlyLine l o (s.freeSlot n) := (h.setSlot (.inr hn) Slot.cleared).frame rfl

theorem OnlyLine.handToQueue (kind : RecordKind) : OnlyLine l o (s.handToQueue n kind) :=
  (h.setSlot (.inr hn) _).frame rfl

theorem OnlyLine.joinTail : OnlyLine l o (s.joinTail n) := by
  subst hn
  exact (h.setSlot (.inr rfl) _).setEngine _

theorem OnlyLine.joinHead : OnlyLine l o (s.joinHead n) := by
  subst hn
  exact (h.setSlot (.inr rfl) _).setEngine _

theorem OnlyLine.desync (oc : TransactionOutcome) : OnlyLine l o (s.desync n oc) := by
  subst hn
  unfold State.desync
  split
  · exact h.updateStation _ _
  · exact h

/-- A POLL slot's entry stands in the scheduler of the slot's line (R25, R114 to R116). -/
theorem OnlyLine.pollHandOn (oc : TransactionOutcome) : OnlyLine l o (s.pollHandOn n oc) := by
  subst hn
  unfold State.pollHandOn
  dsimp only
  split
  · split
    · exact OnlyLine.handToQueue (h.setSched _) rfl _
    · exact (OnlyLine.freeSlot (h.setSched _) rfl).setSched _
  · exact (h.freeSlot rfl).setSched _

theorem OnlyLine.handOn (oc : TransactionOutcome) : OnlyLine l o (s.handOn n oc) := by
  unfold State.handOn
  split
  · exact h.handToQueue hn _
  · exact h.pollHandOn hn oc

theorem OnlyLine.complete (oc : TransactionOutcome) : OnlyLine l o (s.complete n oc) := by
  have hended : OnlyLine l o (s.modSlot n fun x => { x with outcome := some oc, doneTime := s.tick }) :=
    h.setSlot (.inr hn) _
  have hline : ((s.modSlot n fun x => { x with outcome := some oc, doneTime := s.tick }).slot n).line = l := by simp [hn]
  refine (hended.desync hline oc).handOn ?_ oc
  rw [State.desync_frame]
  exact hline

theorem OnlyLine.retry (f : Failure) : OnlyLine l o (s.retry n f) := by
  have hfailed : OnlyLine l o (s.modSlot n fun x => { x with lastFailure := some f }) := h.setSlot (.inr hn) _
  have hline : ((s.modSlot n fun x => { x with lastFailure := some f }).slot n).line = l := by simp [hn]
  unfold State.retry
  dsimp only
  split
  · split
    · exact hfailed.joinTail hline
    · exact hfailed.joinHead hline
  · exact hfailed.complete hline _

end

/-! ### The engine (chapter 4) -/

theorem OnlyLine.settle : OnlyLine l o (s.settle l) := h.setEngine _

theorem OnlyLine.finishActive {n : SlotNo} (hn : (s.slot n).line = l) (oc : TransactionOutcome) :
    OnlyLine l o (s.finishActive l n oc) := by
  have hreleased : OnlyLine l o (s.modEngine l Engine.release) := h.setEngine _
  exact (hreleased.complete hn oc).settle

theorem OnlyLine.actOnVerdict {n : SlotNo} (hn : (s.slot n).line = l) (v : Verdict) :
    OnlyLine l o (s.actOnVerdict l n v) := by
  have hstored : OnlyLine l o (s.modSlot n fun x => { x with replyLength := some (s.link l).stored }) :=
    h.setSlot (.inr hn) _
  have hline : ((s.modSlot n fun x => { x with replyLength := some (s.link l).stored }).slot n).line = l := by simp [hn]
  have hreleased : OnlyLine l o (s.modEngine l Engine.release) := h.setEngine _
  cases v with
  | goodReply => exact hstored.finishActive hline _
  | replyTooLong => exact hstored.finishActive hline _
  | goodAck => exact (h.setEngine _).settle
  | failed f => exact (hreleased.retry hn f).settle

theorem OnlyLine.verdict (hown : HoldsOwn l s) (v : Verdict) : OnlyLine l o (s.verdict l v) := by
  have hstopped : OnlyLine l o (s.modEngine l Engine.stopWaiting) := h.setEngine _
  unfold State.verdict
  split
  · exact h
  · next n hn =>
    have hline : (s.slot n).line = l := hown n hn
    dsimp only
    split
    · exact hstopped.finishActive hline _
    · split
      · exact hstopped.actOnVerdict hline v
      · exact (hstopped.updateStation _ _).actOnVerdict (by rw [State.updateStation_slot]; exact hline) v

/-! ### Taking and sending -/

theorem OnlyLine.takeHead (hqueue : ∀ n ∈ (s.engine l).queue, (s.slot n).line = l) : OnlyLine l o (s.takeHead l) := by
  unfold State.takeHead
  dsimp only
  split
  · split
    · exact h
    · next n rest hhead => exact (h.setSlot (.inr (hqueue n (by simp [hhead]))) _).setEngine _
  · exact h

theorem OnlyLine.leadExpired (hown : HoldsOwn l s) : OnlyLine l o (s.leadExpired l) := by
  unfold State.leadExpired
  dsimp only
  split
  · split
    · next n p hn _ =>
      have hbegun : OnlyLine l o (if (s.engine l).resynced then s
          else s.modSlot n fun y => { y with attempts := y.attempts + 1 }) := by
        split
        · exact h
        · exact h.setSlot (.inr (hown n hn)) _
      exact ((hbegun.setEngine _).setLink _).setLink _
    · exact h
  · exact h

theorem OnlyLine.guardSpace (hown : HoldsOwn l s) : OnlyLine l o (s.guardSpace l) := by
  have hheard : OnlyLine l o (s.modLink l fun k => { k with quietTime := 0 }) := h.setLink _
  unfold State.guardSpace
  dsimp only
  split
  · next n _ hn =>
    have hreleased : OnlyLine l o (State.modEngine (State.modEngine _ l fun y => { y with leadTimer := none }) l
      Engine.release) := (hheard.setEngine _).setEngine _
    split
    · exact (hheard.setEngine _).settle
    · exact (hreleased.joinHead (hown n hn)).settle
  · split
    · exact h
    · exact hheard

theorem OnlyLine.holdEnded (hown : HoldsOwn l s) : OnlyLine l o (s.holdEnded l) := by
  have hstopped : OnlyLine l o (s.modEngine l fun y => { y with holdTimer := none }) := h.setEngine _
  unfold State.holdEnded
  split
  · exact h
  · next n hn =>
    have hline : (s.slot n).line = l := hown n hn
    dsimp only
    split
    · exact hstopped.finishActive hline _
    · split
      · exact hstopped.finishActive hline _
      · exact hstopped.setEngine _

theorem OnlyLine.holdExpired (hown : HoldsOwn l s) : OnlyLine l o (s.holdExpired l) := by
  unfold State.holdExpired
  split
  · exact h.holdEnded hown
  · exact h

theorem OnlyLine.frameSent (hown : HoldsOwn l s) {n : SlotNo} (hn : (s.engine l).active = some n) (p : Phase) :
    OnlyLine l o (s.frameSent l n p) := by
  have hover : OnlyLine l o (s.modLink l Link.frameOver) := h.setLink _
  have hsent : OnlyLine l o (if p = .request then
      (s.modLink l Link.frameOver).modSlot n fun x => { x with requestSent := true } else s.modLink l Link.frameOver) := by
    split
    · exact hover.setSlot (.inr (hown n hn)) _
    · exact hover
  have hheld : OnlyLine l o (State.modEngine _ l fun y =>
      { y with state := .turnaround, holdTimer := some (s.engine l).config.turnaroundHold }) := hsent.setEngine _
  unfold State.frameSent
  dsimp only
  split
  · refine hheld.holdEnded fun m hm => ?_
    have hm : (s.engine l).active = some m := by
      split at hm <;> simpa using hm
    obtain rfl : n = m := Option.some.inj (hn.symm.trans hm)
    split
    · simpa using hown n hn
    · exact hown n hn
  · exact hheld

theorem OnlyLine.characterEnded (hown : HoldsOwn l s) (readBack : BitVec 11) :
    OnlyLine l o (s.characterEnded l readBack) := by
  have hheard : OnlyLine l o (s.modLink l fun k => k.heardBack readBack) := h.setLink _
  unfold State.characterEnded
  dsimp only
  split
  · next n p _ _ _ _ _ hn _ _ =>
    split
    · split
      · exact hheard.setLink _
      · exact hheard.frameSent hown hn p
    · exact (hheard.setLink _).verdict hown _
  · exact h

/-! ### Waiting, receiving and settling -/

theorem OnlyLine.replyExpired (hown : HoldsOwn l s) : OnlyLine l o (s.replyExpired l) := by
  unfold State.replyExpired
  split
  · exact h.verdict hown _
  · exact h

theorem OnlyLine.startBit : OnlyLine l o (s.startBit l) := by
  unfold State.startBit
  dsimp only
  split
  · split
    · exact (h.setLink _).setEngine _
    · exact (h.setLink _).setEngine _
    · exact h.setLink _
  · exact h

theorem OnlyLine.tookCharacter (k : Link) : OnlyLine l o (s.tookCharacter l k) := (h.setLink _).setEngine _

theorem OnlyLine.takeCharacter (hown : HoldsOwn l s) (x : Slot) (p : Phase) (b : Byte) :
    OnlyLine l o (s.takeCharacter l x p b) := by
  unfold State.takeCharacter
  dsimp only
  split
  · exact h.tookCharacter _
  split
  · exact h.tookCharacter _
  split
  · exact h.tookCharacter _
  split
  · split
    · exact (h.putChainByte _ _ _).tookCharacter _
    · exact h.tookCharacter _
  split
  · exact h.tookCharacter _
  · exact (h.setLink _).verdict hown _

theorem OnlyLine.characterDelivered (hown : HoldsOwn l s) (samples : BitVec 10) :
    OnlyLine l o (s.characterDelivered l samples) := by
  unfold State.characterDelivered
  dsimp only
  split
  · split
    · split
      · exact (h.setLink _).verdict hown _
      · exact (h.setLink _).takeCharacter hown _ _ _
    · exact h.setLink _
  · exact h

theorem OnlyLine.gapExpired (hown : HoldsOwn l s) : OnlyLine l o (s.gapExpired l) := by
  unfold State.gapExpired
  dsimp only
  split
  · exact (h.setLink _).verdict hown _
  · exact h

theorem OnlyLine.settled : OnlyLine l o (s.settled l) := by
  unfold State.settled
  dsimp only
  split
  · exact h
  · split
    · exact (h.setLink _).setEngine _
    · exact h.setLink _

theorem OnlyLine.stuckExpired : OnlyLine l o (s.stuckExpired l) := by
  have hraised : OnlyLine l o (s.raiseStuck l) := h.frame rfl
  unfold State.stuckExpired
  dsimp only
  split
  · split
    · exact h.setEngine _
    · exact hraised.setEngine _
  · exact h

theorem OnlyLine.reArm : OnlyLine l o (s.reArm l) := by
  unfold State.reArm
  split
  · exact h.setLink _
  · exact h

/-! ### The Poll Scheduler (chapter 6) -/

theorem OnlyLine.cycleDue : OnlyLine l o (s.cycleDue l) := by
  unfold State.cycleDue State.startCycle
  dsimp only
  split
  · split
    · exact h.setSched _
    · split
      · exact ((h.setSched _).setSched _).frame rfl
      · exact (h.setSched _).setSched _
  · exact h

/-- A poll creation makes a FREE slot one of the line's (R25). -/
theorem OnlyLine.createPoll {n : SlotNo} (hn : (s.slot n).state = .free) (e : EntryNo) (d : PollDef) :
    OnlyLine l o (s.createPoll l e d n) := by
  have hcreated : OnlyLine l o (s.create n (pollSlot l e d)) := (h.setSlot (.inl hn) _).frame rfl
  have hstored := hcreated.putChainByte ((s.create n (pollSlot l e d)).slot n).requestChain 0 d.item
  refine (hstored.joinTail ?_).setSched _
  rw [State.putChainByte_eq]
  exact congrArg Slot.line (s.create_slot_same n (pollSlot l e d))

theorem OnlyLine.claim : OnlyLine l o (s.claim l) := by
  unfold State.claim
  split
  · next e rest _ _ =>
    have hclaimed : OnlyLine l o (s.modSched l fun p => { p with due := rest }) := h.setSched _
    dsimp only
    split
    · exact hclaimed
    · split
      · next n hn =>
        split
        · exact hclaimed.createPoll (State.lowestFree_isFree hn) e _
        · exact hclaimed.setSched _
      · exact hclaimed.setSched _
  · exact h

end

/-- A happening answers the state it found, or its effect with the outputs evaluated. -/
theorem happening_cases {f : State → State} {s t : State} (ht : happening f s = .next t) : t = s ∨ t = (f s).drive := by
  unfold happening at ht
  split at ht
  · exact .inl (Host.Outcome.next.inj ht).symm
  · exact .inr (Host.Outcome.next.inj ht).symm

theorem OnlyLine.of_happening {l : Line} {s t : State} {f : State → State} (ht : happening f s = .next t)
    (hf : OnlyLine l s (f s)) : OnlyLine l s t := by
  obtain rfl | rfl := happening_cases ht
  · exact .refl l t
  · exact hf.frame rfl

/-- Settles O59: every slot that a happening of a line writes is FREE, in the line's queue, or active on the line. -/
theorem linesDoNotDisturbEachOther : Obligations.LinesDoNotDisturbEachOther := by
  intro s t l k c hplaces hkl hc ht
  obtain ⟨-, ⟨hqueued, -⟩, ⟨hactive, -⟩, -⟩ := hplaces
  have hqueue : ∀ n ∈ (s.engine l).queue, (s.slot n).line = l := fun n hn => (hqueued l n hn).2
  have hown : HoldsOwn l s := fun n hn => (hactive l n hn).2
  have h := OnlyLine.refl l s
  have honly : OnlyLine l s t := by
    obtain (rfl | rfl | rfl | rfl | rfl | rfl | rfl | rfl | rfl | rfl | rfl | rfl) | ⟨readBack, rfl⟩ | ⟨samples, rfl⟩ := hc
    all_goals dsimp only [exec] at ht
    · exact .of_happening ht (h.takeHead hqueue)
    · exact .of_happening ht (h.leadExpired hown)
    · exact .of_happening ht (h.guardSpace hown)
    · exact .of_happening ht (h.holdExpired hown)
    · exact .of_happening ht (h.replyExpired hown)
    · exact .of_happening ht h.startBit
    · exact .of_happening ht (h.gapExpired hown)
    · exact .of_happening ht h.settled
    · exact .of_happening ht h.stuckExpired
    · exact .of_happening ht h.reArm
    · exact .of_happening ht h.cycleDue
    · exact .of_happening ht h.claim
    · exact .of_happening ht (h.characterEnded hown readBack)
    · exact .of_happening ht (h.characterDelivered hown samples)
  exact ⟨honly.engine k hkl, honly.link k hkl, honly.stationLine k hkl, honly.sched k hkl,
    fun n hstate hline => honly.slot n hstate (hline.trans_ne hkl)⟩

end Sys2Proof.Machine
end

/-! # How a station becomes SYNCED (R16, R90)

The Station Table is written by station updates, by LINE_SET and LINE_RESET, by QUERY CHANGES and by the resets. Of all these
only the update by a good RESYNC_ACK makes a record SYNCED. -/

/-! ### What writes no station -/

section
namespace Sys2Proof.Machine

section
variable (s : State)

@[simp] theorem State.putChainByte_stations (chain : List BlockNo) (i : Nat) (b : Byte) :
    (s.putChainByte chain i b).stations = s.stations := by rw [State.putChainByte_eq]

@[simp] theorem State.joinTail_stations (n : SlotNo) : (s.joinTail n).stations = s.stations := rfl

@[simp] theorem State.joinHead_stations (n : SlotNo) : (s.joinHead n).stations = s.stations := rfl

@[simp] theorem State.settle_stations (l : Line) : (s.settle l).stations = s.stations := rfl

/-- The slot is handed on after the desynchronization rule, and no more is done to its station. -/
@[simp] theorem State.handOn_stations (n : SlotNo) (oc : TransactionOutcome) : (s.handOn n oc).stations = s.stations := by
  unfold State.handOn
  split
  · rfl
  · unfold State.pollHandOn
    dsimp only
    split
    · split
      · rfl
      · rfl
    · rfl

@[simp] theorem State.retireHead_stations : s.retireHead.stations = s.stations := by rw [State.retireHead_frame]

/-! #### The engine (chapter 4) -/

theorem State.takeHead_stations (l : Line) : (s.takeHead l).stations = s.stations := by
  unfold State.takeHead
  dsimp only
  split
  · split
    · rfl
    · rfl
  · rfl

theorem State.leadExpired_stations (l : Line) : (s.leadExpired l).stations = s.stations := by
  unfold State.leadExpired
  dsimp only
  split
  · split
    · split
      · rfl
      · rfl
    · rfl
  · rfl

theorem State.guardSpace_stations (l : Line) : (s.guardSpace l).stations = s.stations := by
  unfold State.guardSpace
  dsimp only
  split
  · split
    · rfl
    · rw [State.settle_stations, State.joinHead_stations]
      rfl
  · split
    · rfl
    · rfl

theorem State.startBit_stations (l : Line) : (s.startBit l).stations = s.stations := by
  unfold State.startBit
  dsimp only
  split
  · split
    · rfl
    · rfl
    · rfl
  · rfl

theorem State.settled_stations (l : Line) : (s.settled l).stations = s.stations := by
  unfold State.settled
  dsimp only
  split
  · rfl
  · split
    · rfl
    · rfl

theorem State.stuckExpired_stations (l : Line) : (s.stuckExpired l).stations = s.stations := by
  unfold State.stuckExpired
  dsimp only
  split
  · split
    · rfl
    · rfl
  · rfl

theorem State.reArm_stations (l : Line) : (s.reArm l).stations = s.stations := by
  unfold State.reArm
  split
  · rfl
  · rfl

/-! #### The Poll Scheduler (chapter 6) -/

@[simp] theorem State.startCycle_stations (l : Line) : (s.startCycle l).stations = s.stations := by
  unfold State.startCycle
  dsimp only
  split
  · rfl
  · split
    · rfl
    · rfl

theorem State.cycleDue_stations (l : Line) : (s.cycleDue l).stations = s.stations := by
  unfold State.cycleDue
  split
  · exact s.startCycle_stations l
  · rfl

theorem State.createPoll_stations (l : Line) (e : EntryNo) (d : PollDef) (n : SlotNo) :
    (s.createPoll l e d n).stations = s.stations := by
  unfold State.createPoll
  dsimp only
  rw [State.modEntry_eq, State.setSched_stations, State.joinTail_stations, State.putChainByte_stations]
  rfl

theorem State.claim_stations (l : Line) : (s.claim l).stations = s.stations := by
  unfold State.claim
  split
  · dsimp only
    split
    · rfl
    · split
      · split
        · exact State.createPoll_stations ..
        · rfl
      · rfl
  · rfl

/-! #### The Data Port, the readout and the Command Port (chapters 7 to 9) -/

theorem State.intakeComplete_stations : s.intakeComplete.stations = s.stations := by
  unfold State.intakeComplete
  split
  · rfl
  · rfl

theorem State.intakeAbandoned_stations (code : ResponseCode) : (s.intakeAbandoned code).stations = s.stations := by
  unfold State.intakeAbandoned
  split
  · rfl
  · rfl

theorem State.moveIn_stations (b : Byte) (dma tc : Bool) : (s.moveIn b dma tc).stations = s.stations := by
  have htaken : ((s.putChainByte s.loadingChain s.data.moved b).modData fun d => d.movedByte dma).stations = s.stations :=
    s.putChainByte_stations _ _ _
  unfold State.moveIn
  dsimp only
  split
  · split
    · exact (State.intakeComplete_stations _).trans htaken
    · exact (State.intakeAbandoned_stations _ _).trans htaken
  · split
    · refine (State.intakeComplete_stations _).trans ?_
      split
      · exact htaken
      · exact htaken
    · exact htaken

theorem State.dataIn_stations (b : Byte) (dma tc : Bool) : (s.dataIn b dma tc).stations = s.stations := by
  unfold State.dataIn
  split
  · exact s.moveIn_stations b dma tc
  · rfl

theorem State.outflowComplete_stations : s.outflowComplete.stations = s.stations := s.retireHead_stations

theorem State.moveOut_stations (dma tc : Bool) : (s.moveOut dma tc).stations = s.stations := by
  unfold State.moveOut
  dsimp only
  split
  · split
    · exact State.outflowComplete_stations _
    · rfl
  · split
    · refine (State.outflowComplete_stations _).trans ?_
      split
      · rfl
      · rfl
    · rfl

theorem State.dataOut_stations (dma tc : Bool) : (s.dataOut dma tc).2.stations = s.stations := by
  unfold State.dataOut
  split
  · exact s.moveOut_stations dma tc
  · rfl

theorem State.headerEnd_stations (r : Record) : (s.headerEnd r).stations = s.stations := by
  unfold State.headerEnd
  split
  · exact s.retireHead_stations
  · rfl

theorem State.readResult_stations : s.readResult.2.stations = s.stations := by
  unfold State.readResult
  split
  · rfl
  · dsimp only
    split
    · dsimp only
      split
      · exact s.headerEnd_stations _
      · rfl
    · rfl

theorem State.readResponse_stations : s.readResponse.2.stations = s.stations := by
  unfold State.readResponse
  split
  · rfl
  · rfl

theorem State.readCause_stations : s.readCause.2.stations = s.stations := by
  unfold State.readCause
  split
  · rfl
  · rfl

theorem State.submitGranted_stations (p : SubmitParams) (n : SlotNo) : (s.submitGranted p n).stations = s.stations := by
  unfold State.submitGranted
  dsimp only
  split
  · rfl
  · rfl

theorem State.takeSubmit_stations (p : SubmitParams) : (s.takeSubmit p).stations = s.stations := by
  unfold State.takeSubmit State.ifPresent
  split
  · rfl
  split
  · rfl
  split
  · rfl
  split
  · rfl
  · exact s.submitGranted_stations p _

end

end Sys2Proof.Machine
end

/-! ### What makes no station SYNCED -/

section
namespace Sys2Proof.Machine

/-- On the way from one state to a later one no station has become SYNCED. -/
def NoneSynced (o s : State) : Prop :=
  ∀ (l : Line) (a : StationAddr), (o.station l a).sync = .unsync → (s.station l a).sync = .unsync

theorem NoneSynced.refl (s : State) : NoneSynced s s := fun _ _ h => h

/-- A Station Table with no SYNCED record. -/
theorem NoneSynced.of_unsync {s : State} (o : State)
    (hs : ∀ l i, ((s.stationLine l).records.look i).sync = .unsync) : NoneSynced o s := by
  intro l a _
  unfold State.station
  split
  · exact hs l _
  · rfl

/-- A soft reset leaves every station UNSYNC (R99, R185). -/
theorem NoneSynced.softReset (o s : State) : NoneSynced o s.softReset := by
  refine .of_unsync o fun l i => ?_
  have hline : s.softReset.stationLine l = StationLine.reset := Table.look_fill ..
  rw [hline]
  exact congrArg Station.sync (Table.look_fill 31 Station.reset i)

/-- R89's table makes a station SYNCED in one row alone. -/
theorem Station.afterVerdict_unsync {v : Verdict} (hv : v ≠ .goodAck) (x : Station) (hx : x.sync = .unsync) :
    (x.afterVerdict v).sync = .unsync := by
  cases v with
  | goodReply => exact hx
  | replyTooLong => exact hx
  | goodAck => exact absurd rfl hv
  | failed f =>
    cases f with
    | stale => rfl
    | _ => exact hx

section
variable {o s t : State} (h : NoneSynced o s)
include h

/-- A change of anything but the Station Table. -/
theorem NoneSynced.frame (ht : t.stations = s.stations) : NoneSynced o t := by
  unfold NoneSynced
  rw [State.station_congr ht]
  exact h

theorem NoneSynced.setEngine (l : Line) (x : Engine) : NoneSynced o (s.setEngine l x) := h.frame rfl

theorem NoneSynced.ite {c : Prop} [Decidable c] (ht : NoneSynced o t) : NoneSynced o (if c then s else t) := by
  split
  · exact h
  · exact ht

theorem NoneSynced.setStationLine (l : Line) {x : StationLine}
    (hx : ∀ i, ((s.stationLine l).records.look i).sync = .unsync → (x.records.look i).sync = .unsync) :
    NoneSynced o (s.setStationLine l x) := by
  intro k a hka
  have hold := h k a hka
  unfold State.station at hold ⊢
  split
  · next i hi =>
    rw [hi] at hold
    rw [State.setStationLine_stationLine]
    split
    · next hlk => exact hx i (hlk ▸ hold)
    · exact hold
  · rfl

theorem NoneSynced.updateStation {f : Station → Station} (hf : ∀ x : Station, x.sync = .unsync → (f x).sync = .unsync)
    (l : Line) (a : StationAddr) : NoneSynced o (s.updateStation l a f) := by
  intro k b hkb
  rw [State.updateStation_station]
  split
  · next hat =>
    obtain ⟨rfl, rfl, -⟩ := hat
    exact hf _ (h k b hkb)
  · exact h k b hkb

/-! #### The end of a transaction (R35, R36) -/

theorem NoneSynced.desync (n : SlotNo) (oc : TransactionOutcome) : NoneSynced o (s.desync n oc) := by
  unfold State.desync
  split
  · exact h.updateStation (fun _ _ => rfl) _ _
  · exact h

theorem NoneSynced.complete (n : SlotNo) (oc : TransactionOutcome) : NoneSynced o (s.complete n oc) := by
  have hended : NoneSynced o (s.modSlot n fun x => { x with outcome := some oc, doneTime := s.tick }) := h.frame rfl
  exact (hended.desync n oc).frame (State.handOn_stations ..)

theorem NoneSynced.completeAll (ns : List SlotNo) (oc : TransactionOutcome) : NoneSynced o (s.completeAll ns oc) := by
  induction ns generalizing s with
  | nil => exact h
  | cons n ns ih => exact ih (h.complete n oc)

theorem NoneSynced.completeQueue (l : Line) (oc : TransactionOutcome) : NoneSynced o (s.completeQueue l oc) := by
  have hemptied : NoneSynced o (s.modEngine l fun e => { e with queue := [] }) := h.frame rfl
  exact hemptied.completeAll _ _

theorem NoneSynced.completeActive (l : Line) (n : SlotNo) (oc : TransactionOutcome) :
    NoneSynced o (s.completeActive l n oc) := by
  have hreleased : NoneSynced o (s.modEngine l Engine.release) := h.frame rfl
  exact hreleased.complete n oc

theorem NoneSynced.finishActive (l : Line) (n : SlotNo) (oc : TransactionOutcome) :
    NoneSynced o (s.finishActive l n oc) := (h.completeActive l n oc).frame (State.settle_stations ..)

/-! #### Verdicts -/

theorem NoneSynced.retry (n : SlotNo) (f : Failure) : NoneSynced o (s.retry n f) := by
  have hfailed : NoneSynced o (s.modSlot n fun x => { x with lastFailure := some f }) := h.frame rfl
  unfold State.retry
  dsimp only
  split
  · split
    · exact h.frame rfl
    · exact h.frame rfl
  · exact hfailed.complete n _

theorem NoneSynced.actOnVerdict (l : Line) (n : SlotNo) (v : Verdict) : NoneSynced o (s.actOnVerdict l n v) := by
  have hstored : NoneSynced o (s.modSlot n fun x => { x with replyLength := some (s.link l).stored }) := h.frame rfl
  have hreleased : NoneSynced o (s.modEngine l Engine.release) := h.frame rfl
  cases v with
  | goodReply => exact hstored.finishActive l n _
  | replyTooLong => exact hstored.finishActive l n _
  | goodAck => exact h.frame rfl
  | failed f => exact (hreleased.retry n f).frame rfl

/-- With a cancel pending, or of a broadcast, even a good RESYNC_ACK reaches no station (R79). -/
theorem NoneSynced.verdict (l : Line) {v : Verdict}
    (hv : ∀ n, (s.engine l).active = some n → (s.slot n).cancelPending = none → (s.engine l).phase ≠ some .broadcast →
      v ≠ .goodAck) : NoneSynced o (s.verdict l v) := by
  have hstopped : NoneSynced o (s.modEngine l Engine.stopWaiting) := h.frame rfl
  unfold State.verdict
  split
  · exact h
  · next n hn =>
    dsimp only
    split
    · exact hstopped.finishActive l n _
    · next hpending =>
      split
      · exact hstopped.actOnVerdict l n v
      · next hphase =>
        have hunsync := Station.afterVerdict_unsync (hv n hn hpending hphase)
        exact (hstopped.updateStation hunsync l _).actOnVerdict l n v

theorem NoneSynced.verdictFailed (l : Line) (f : Failure) : NoneSynced o (s.verdict l (.failed f)) :=
  h.verdict l fun _ _ _ _ => nofun

/-! #### Sending and waiting -/

theorem NoneSynced.holdEnded (l : Line) : NoneSynced o (s.holdEnded l) := by
  have hstopped : NoneSynced o (s.modEngine l fun y => { y with holdTimer := none }) := h.frame rfl
  unfold State.holdEnded
  split
  · exact h
  · dsimp only
    split
    · exact hstopped.finishActive l _ _
    · split
      · exact hstopped.finishActive l _ _
      · exact h.frame rfl

theorem NoneSynced.holdExpired (l : Line) : NoneSynced o (s.holdExpired l) := by
  unfold State.holdExpired
  split
  · exact h.holdEnded l
  · exact h

theorem NoneSynced.frameSent (l : Line) (n : SlotNo) (p : Phase) : NoneSynced o (s.frameSent l n p) := by
  have hover : NoneSynced o (s.modLink l Link.frameOver) := h.frame rfl
  have hsent : NoneSynced o (if p = .request then
      (s.modLink l Link.frameOver).modSlot n fun x => { x with requestSent := true } else s.modLink l Link.frameOver) := by
    split
    · exact h.frame rfl
    · exact hover
  have hheld : NoneSynced o (State.modEngine _ l fun y =>
      { y with state := .turnaround, holdTimer := some (s.engine l).config.turnaroundHold }) := hsent.setEngine _ _
  unfold State.frameSent
  dsimp only
  split
  · exact hheld.holdEnded l
  · exact hheld

theorem NoneSynced.characterEnded (l : Line) (readBack : BitVec 11) : NoneSynced o (s.characterEnded l readBack) := by
  have hheard : NoneSynced o (s.modLink l fun k => k.heardBack readBack) := h.frame rfl
  have hover : NoneSynced o ((s.modLink l fun k => k.heardBack readBack).modLink l Link.frameOver) := h.frame rfl
  unfold State.characterEnded
  dsimp only
  split
  · split
    · split
      · exact h.frame rfl
      · exact hheard.frameSent l _ _
    · exact hover.verdictFailed l _
  · exact h

theorem NoneSynced.replyExpired (l : Line) : NoneSynced o (s.replyExpired l) := by
  unfold State.replyExpired
  split
  · exact h.verdictFailed l _
  · exact h

theorem NoneSynced.gapExpired (l : Line) : NoneSynced o (s.gapExpired l) := by
  have hpassed : NoneSynced o (s.modLink l fun k => { k with gap := (s.engine l).config.gapLimit }) := h.frame rfl
  unfold State.gapExpired
  dsimp only
  split
  · exact hpassed.verdictFailed l _
  · exact h

/-! #### Cancelling the active slot -/

theorem NoneSynced.engineCancel (l : Line) (n : SlotNo) (oc : TransactionOutcome) :
    NoneSynced o (s.engineCancel l n oc) := by
  have hled : NoneSynced o (s.modEngine l fun e => { e with leadTimer := none }) := h.frame rfl
  have hstopped : NoneSynced o (s.modEngine l Engine.stopWaiting) := h.frame rfl
  unfold State.engineCancel
  split
  · exact hled.finishActive l n oc
  · exact (h.completeActive l n oc).frame rfl
  · exact hstopped.finishActive l n oc
  · exact hstopped.finishActive l n oc
  · exact h

theorem NoneSynced.cancelActive (l : Line) (oc : PendingOutcome) : NoneSynced o (s.cancelActive l oc) := by
  unfold State.cancelActive
  split
  · exact h
  · next n _ =>
    split
    · exact h
    · have hflagged : NoneSynced o (s.modSlot n fun x => { x with cancelPending := some oc }) := h.frame rfl
      exact hflagged.engineCancel l _ _

/-! #### The commands (sections 8.2 and 8.3) -/

/-- A new threshold moves stations into the change set and writes no record (R94). -/
theorem NoneSynced.configure (l : Line) (c : LineConfig) : NoneSynced o (s.configure l c) := by
  have hset : NoneSynced o (s.modEngine l fun e => { e with config := c }) := h.frame rfl
  have hlink : NoneSynced o (if c.divisor = (s.engine l).config.divisor then s.modEngine l fun e => { e with config := c }
      else (s.modEngine l fun e => { e with config := c }).modLink l Link.newDivisor) := hset.ite (h.frame rfl)
  unfold State.configure
  dsimp only
  split
  · exact hlink
  · exact hlink.setStationLine l fun _ hi => hi

theorem NoneSynced.abortLine (l : Line) : NoneSynced o (s.abortLine l) := by
  have hdraining : NoneSynced o (s.modEngine l fun e => e.drain .abort) := h.frame rfl
  exact (hdraining.completeQueue l _).cancelActive l _

theorem NoneSynced.turnOff (l : Line) (k : DrainKind) : NoneSynced o (s.turnOff l k) := by
  have hhalted : NoneSynced o (s.modSched l Scheduler.halt) := h.frame rfl
  have hoff : NoneSynced o ((s.modSched l Scheduler.halt).modEngine l Engine.toOff) := h.frame rfl
  unfold State.turnOff
  dsimp only
  split
  · exact hoff
  · exact hoff.completeQueue l _
  · exact h.frame rfl
  · exact hhalted.abortLine l

theorem NoneSynced.resetActive (l : Line) : NoneSynced o (s.resetActive l) := by
  unfold State.resetActive
  split
  · exact h
  · exact h.completeActive l _ _

/-- LINE_RESET leaves every station of its line UNSYNC (R99). -/
theorem NoneSynced.resetLine (l : Line) : NoneSynced o (s.resetLine l) := by
  have hcut : NoneSynced o (s.modLink l Link.cut) := h.frame rfl
  have hended := (hcut.completeQueue l .lineDown).resetActive l
  have hcleared : NoneSynced o (State.modEngine _ l Engine.cleared) := hended.frame rfl
  have hreset := hcleared.setStationLine l (x := StationLine.reset)
    fun i _ => congrArg Station.sync (Table.look_fill 31 Station.reset i)
  exact hreset.frame rfl

theorem NoneSynced.ifPresent (l : Line) (ht : NoneSynced o t) : NoneSynced o (s.ifPresent l t) := by
  unfold State.ifPresent
  split
  · exact h.frame rfl
  · exact ht

theorem NoneSynced.takeCancel (n : SlotNo) : NoneSynced o (s.takeCancel n) := by
  unfold State.takeCancel
  dsimp only
  split
  · have hout : NoneSynced o (s.modEngine (s.slot n).line fun e => { e with queue := e.queue.erase n }) := h.frame rfl
    exact (hout.complete n _).frame rfl
  · split
    · exact (h.cancelActive _ _).frame rfl
    · exact h.frame rfl
  · exact h.frame rfl

theorem NoneSynced.takePurge (l : Line) : NoneSynced o (s.takePurge l) :=
  h.ifPresent l ((h.completeQueue l _).frame rfl)

theorem NoneSynced.takeLineSet (l : Line) (c : LineConfig) : NoneSynced o (s.takeLineSet l c) := by
  refine h.ifPresent l ?_
  split
  · exact (h.configure l c).frame rfl
  · exact h.frame rfl

theorem NoneSynced.takeLineOn (l : Line) : NoneSynced o (s.takeLineOn l) := by
  refine h.ifPresent l ?_
  split
  · exact h.frame rfl
  · exact h.frame rfl

theorem NoneSynced.takeLineOff (l : Line) (k : DrainKind) : NoneSynced o (s.takeLineOff l k) := by
  unfold State.takeLineOff
  split
  · exact h.frame rfl
  · exact h.frame rfl
  · exact (h.turnOff l k).frame rfl
  · split
    · exact (h.abortLine l).frame rfl
    · exact h.frame rfl

theorem NoneSynced.takeLineReset (l : Line) : NoneSynced o (s.takeLineReset l) :=
  h.ifPresent l ((h.resetLine l).frame rfl)

theorem NoneSynced.takePollSet (l : Line) (e : EntryNo) (d : PollDef) : NoneSynced o (s.takePollSet l e d) := by
  refine h.ifPresent l ?_
  split
  · exact h.frame rfl
  · exact h.frame rfl

theorem NoneSynced.takePollRun (l : Line) (period : Nat) : NoneSynced o (s.takePollRun l period) := by
  refine h.ifPresent l ?_
  split
  · exact h.frame (State.startCycle_stations ..)
  · exact h.frame rfl

theorem NoneSynced.takePollHalt (l : Line) : NoneSynced o (s.takePollHalt l) := h.ifPresent l (h.frame rfl)

/-- No action of STATION_SET makes a station SYNCED (R93). -/
theorem NoneSynced.takeStationSet (l : Line) (a : StationAddr) (act : StationAction) :
    NoneSynced o (s.takeStationSet l a act) := by
  have hunsync (x : Station) (hx : x.sync = .unsync) : (StationAction.apply x act).sync = .unsync := by
    cases act with
    | forceUnsync => rfl
    | _ => exact hx
  exact h.ifPresent l ((h.updateStation hunsync l a).frame rfl)

/-- QUERY CHANGES empties the change set and writes no record (R96). -/
theorem NoneSynced.takeQueryChanges (l : Line) : NoneSynced o (s.takeQueryChanges l) := by
  have hemptied : NoneSynced o (s.setStationLine l { s.stationLine l with changes := 0 }) :=
    h.setStationLine l fun _ hi => hi
  exact hemptied.frame rfl

theorem NoneSynced.takeRequest (r : Request) : NoneSynced o (s.takeRequest r) := by
  cases r with
  | submit p => exact h.frame (s.takeSubmit_stations p)
  | cancel n => exact h.takeCancel n
  | purge l => exact h.takePurge l
  | lineSet l c => exact h.takeLineSet l c
  | lineOn l => exact h.takeLineOn l
  | lineOff l k => exact h.takeLineOff l k
  | lineReset l => exact h.takeLineReset l
  | pollSet l e d => exact h.takePollSet l e d
  | pollRun l p => exact h.takePollRun l p
  | pollHalt l => exact h.takePollHalt l
  | stationSet l a act => exact h.takeStationSet l a act
  | queryChanges l => exact h.takeQueryChanges l
  | queryPool | querySlot | queryLine | queryStation | queryEntry | queueSet => exact h.frame rfl

theorem NoneSynced.writeCommand (b : Byte) : NoneSynced o (s.writeCommand b) := by
  unfold State.writeCommand
  split
  · unfold State.takeOpcode
    split
    · exact h.frame rfl
    · exact h.frame rfl
  · unfold State.takeParameter
    split
    · exact h
    · have hjoined : NoneSynced o { s with port := { s.port with params := s.port.params ++ [b] } } := h.frame rfl
      dsimp only
      split
      · exact hjoined
      · unfold State.takeCommand
        split
        · exact h.frame rfl
        · exact hjoined.takeRequest _
  · exact h.frame rfl
  · exact h.frame rfl

/-! #### CONTROL and the locations (R182, R184, R185) -/

theorem NoneSynced.abort : NoneSynced o s.abort := h.frame (by rw [State.abort_frame])

theorem NoneSynced.discard : NoneSynced o s.discard := h.frame (by rw [State.discard_frame])

theorem NoneSynced.writeControl (b : Byte) : NoneSynced o (s.writeControl b) := by
  have hreset : NoneSynced o (if b.getLsbD 0 then s.softReset else s) := (NoneSynced.softReset o s).ite h
  have habort := NoneSynced.ite (c := b.getLsbD 1) hreset.abort hreset
  have hdiscard := NoneSynced.ite (c := b.getLsbD 2) habort.discard habort
  exact hdiscard.frame rfl

theorem NoneSynced.writeAt (offset : Fin 8) (b : Byte) : NoneSynced o (s.writeAt offset b) := by
  unfold State.writeAt
  split
  · exact h
  · split
    · exact h.writeCommand b
    · exact h.writeControl b
    · exact h.frame (s.dataIn_stations b _ _)
    · exact h.frame rfl
    · exact h

end

end Sys2Proof.Machine
end

/-! ### The character that completes a RESYNC_ACK (R13, R16, R76, R78, R80) -/

section
namespace Sys2Proof.Machine

/-- Only in phase RESYNC is a frame judged a good RESYNC_ACK (R13, R78). -/
theorem judgeFrame_goodAck_phase {p : Phase} {checkGood : Bool} {control : Byte} {length room : Nat} {sent : Bool}
    (h : judgeFrame p checkGood control length room sent = .goodAck) : p = .resync := by
  by_contra hp
  cases p with
  | resync => exact hp rfl
  | request =>
    revert h
    unfold judgeFrame
    simp only [beq_self_eq_true, if_true]
    split_ifs <;> nofun
  | broadcast =>
    rw [judgeFrame_of_bad room sent fun ⟨_, hw⟩ => by simp [wellFormedReply] at hw] at h
    cases h

/-- A character by itself only ever fails the attempt (R76, steps 1 to 3). -/
theorem earlyVerdict_ne_goodAck (first : Bool) (station : StationAddr) (samples : BitVec 10) :
    earlyVerdict first station samples ≠ some .goodAck := by
  unfold earlyVerdict
  split_ifs <;> nofun

/-- Samples are put together from the stop, the marker and the data bits read out of them. -/
theorem samples_eq_append (samples : BitVec 10) :
    samples = BitVec.ofBool (sampleSound samples) ++ BitVec.ofBool (sampleMarker samples) ++ sampleData samples := by
  apply BitVec.eq_of_getLsbD_eq
  intro i hi
  refine Eq.trans ?_ (samples_getLsbD _ _ _ i).symm
  obtain hdata | rfl | rfl : i < 8 ∨ i = 8 ∨ i = 9 := by omega
  · simp [sampleData, hdata]
  · simp [sampleMarker]
  · simp [sampleSound]

/-- A character after the first that gives no verdict of its own has a sound stop and marker 0 (R76). -/
theorem samples_of_later {station : StationAddr} {samples : BitVec 10} (h : earlyVerdict false station samples = none) :
    samples = BitVec.ofBool true ++ BitVec.ofBool false ++ sampleData samples := by
  have hsound : sampleSound samples = true := by
    by_contra hbroken
    simp [earlyVerdict, Bool.eq_false_of_not_eq_true hbroken] at h
  have hmarker : sampleMarker samples = false := by
    by_contra hmarked
    simp [earlyVerdict, hsound, hmarked] at h
  have hsamples := samples_eq_append samples
  rwa [hsound, hmarker] at hsamples

section
variable {s : State} {l : Line}

/-- A verdict that makes a station SYNCED is the good RESYNC_ACK of the active slot's station, no cancel being pending; the
expected toggle is then 0 (R79, R80, R89). -/
theorem State.verdict_synced {v : Verdict} {k : Line} {a : StationAddr} (hbefore : (s.station k a).sync = .unsync)
    (hafter : ((s.verdict l v).station k a).sync = .synced) :
    v = .goodAck ∧ k = l ∧ ((s.verdict l v).station k a).toggle = false ∧
      ∃ n, (s.engine l).active = some n ∧ (s.slot n).cancelPending = none ∧ (s.slot n).station = a := by
  by_cases hack : ∃ n, (s.engine l).active = some n ∧ (s.slot n).cancelPending = none ∧
      (s.engine l).phase ≠ some .broadcast ∧ v = .goodAck
  · obtain ⟨n, hn, hpending, hphase, rfl⟩ := hack
    have hrecord : (s.verdict l .goodAck).station k a =
        (s.updateStation l (s.slot n).station fun r => r.afterVerdict .goodAck).station k a := by
      rw [State.verdict_of_judged hn hpending hphase, State.actOnVerdict_goodAck]
      rfl
    rw [hrecord, State.updateStation_station] at hafter ⊢
    by_cases hat : k = l ∧ a = (s.slot n).station ∧ (s.slot n).station ≠ 0
    · rw [if_pos hat]
      obtain ⟨hk, ha, -⟩ := hat
      exact ⟨rfl, hk, rfl, n, hn, hpending, ha.symm⟩
    · rw [if_neg hat] at hafter
      exact nomatch hbefore.symm.trans hafter
  · have hnone : NoneSynced s (s.verdict l v) := (NoneSynced.refl s).verdict l
      fun n hn hpending hphase hv => hack ⟨n, hn, hpending, hphase, hv⟩
    exact nomatch (hnone k a hbefore).symm.trans hafter

/-- A delivered character is judged in RECEIVE, by itself or as part of its frame, or it writes no station (R74, R76). -/
theorem State.characterDelivered_cases (s : State) (l : Line) (samples : BitVec 10) :
    (s.characterDelivered l samples).stations = s.stations ∨
      ∃ n p, (s.engine l).state = .receive ∧ (s.engine l).active = some n ∧ (s.engine l).phase = some p ∧
        ((∃ v, v ≠ .goodAck ∧
            s.characterDelivered l samples = (s.setLink l ((s.link l).delivered samples)).verdict l v) ∨
          (earlyVerdict ((s.link l).charCount == 0) (s.slot n).station samples = none ∧
            s.characterDelivered l samples =
              (s.setLink l ((s.link l).delivered samples)).takeCharacter l (s.slot n) p (sampleData samples))) := by
  by_cases htaken : (s.engine l).mode ≠ .absent ∧ (s.link l).transmitter = .idle ∧ (s.link l).receiver ≠ .waitMark
  · obtain ⟨hmode, ht, hr⟩ := htaken
    by_cases hstate : (s.engine l).state = .receive
    · cases hn : (s.engine l).active with
      | none => left; simp [State.characterDelivered, hmode, ht, hr, hstate, hn]
      | some n =>
        cases hp : (s.engine l).phase with
        | none => left; simp [State.characterDelivered, hmode, ht, hr, hstate, hn, hp]
        | some p =>
          refine .inr ⟨n, p, hstate, rfl, rfl, ?_⟩
          cases hv : earlyVerdict ((s.link l).charCount == 0) (s.slot n).station samples with
          | some v =>
            exact .inl ⟨v, fun hack => earlyVerdict_ne_goodAck _ _ _ (hack ▸ hv),
              State.characterDelivered_of_early samples hmode ht hr hstate hn hp hv⟩
          | none => exact .inr ⟨rfl, State.characterDelivered_of_taken samples hmode ht hr hstate hn hp hv⟩
    · left
      rw [State.characterDelivered_of_not_receive samples hmode ht hr hstate]
      rfl
  · left
    unfold State.characterDelivered
    dsimp only
    rw [if_neg htaken]

/-- A character before the second check character writes no station. -/
theorem State.takeCharacter_stations_of_more (s : State) (l : Line) (k : Link) (x : Slot) (p : Phase) (b : Byte)
    (hmore : ¬ (3 < k.charCount ∧ 4 + k.length.toNat ≤ k.charCount)) :
    ((s.setLink l k).takeCharacter l x p b).stations = s.stations := by
  rw [State.takeCharacter_of_more s l k x p b (by omega), State.storeNext_eq]
  rfl

/-- A delivered character that makes a station SYNCED completes a frame on its line that is judged the station's good
RESYNC_ACK: of the characters that reach the Station Table the others fail by themselves (R76, R78). -/
theorem State.characterDelivered_synced {samples : BitVec 10} {k : Line} {a : StationAddr}
    (hbefore : (s.station k a).sync = .unsync) (hafter : ((s.characterDelivered l samples).station k a).sync = .synced) :
    k = l ∧ ((s.characterDelivered l samples).station k a).toggle = false ∧ (s.engine l).state = .receive ∧
      (s.engine l).phase = some .resync ∧
      ∃ (n : SlotNo) (data : Byte), (s.engine l).active = some n ∧ (s.slot n).station = a ∧
        (s.slot n).cancelPending = none ∧ samples = BitVec.ofBool true ++ BitVec.ofBool false ++ data ∧
        3 < (s.link l).charCount ∧ 4 + (s.link l).length.toNat ≤ (s.link l).charCount ∧
        judgeFrame .resync (decide ((s.link l).check.toNat = (s.link l).checkHigh.toNat * 256 + data.toNat))
          (s.link l).control (s.link l).length.toNat (s.slot n).replyRoom (s.link l).sentToggle = .goodAck := by
  obtain hsame | ⟨n, p, hstate, hn, hp, ⟨v, hv, heq⟩ | ⟨hearly, heq⟩⟩ := s.characterDelivered_cases l samples
  · rw [State.station_congr hsame] at hafter
    exact nomatch hbefore.symm.trans hafter
  · rw [heq] at hafter
    exact absurd (State.verdict_synced (s := s.setLink l _) hbefore hafter).1 hv
  · by_cases hlast : 3 < (s.link l).charCount ∧ 4 + (s.link l).length.toNat ≤ (s.link l).charCount
    · obtain ⟨hcount, hlast⟩ := hlast
      rw [State.takeCharacter_of_last s l (k := (s.link l).delivered samples) _ _ _ hcount hlast] at heq
      rw [heq] at hafter ⊢
      obtain ⟨hgood, hk, htoggle, m, hm, hpending, hstation⟩ :=
        State.verdict_synced (s := s.setLink l _) hbefore hafter
      obtain rfl : n = m := Option.some.inj (hn.symm.trans hm)
      obtain rfl := judgeFrame_goodAck_phase hgood
      have hlater : ((s.link l).charCount == 0) = false := beq_false_of_ne (by omega)
      rw [hlater] at hearly
      exact ⟨hk, htoggle, hstate, hp, n, sampleData samples, hn, hstation, hpending, samples_of_later hearly, hcount,
        hlast, hgood⟩
    · rw [heq, State.station_congr (State.takeCharacter_stations_of_more s l ((s.link l).delivered samples) _ _ _ hlast)]
        at hafter
      exact nomatch hbefore.symm.trans hafter

end

/-! ### What every command does -/

theorem readHappening_cases {f : State → Byte × State} {s t : State} (ht : readHappening f s = .next t) :
    t = { s with dataBus := 0 } ∨ t = State.drive { (f s).2 with dataBus := (f s).1 } := by
  unfold readHappening at ht
  split at ht
  · exact .inl (Host.Outcome.next.inj ht).symm
  · exact .inr (Host.Outcome.next.inj ht).symm

theorem NoneSynced.of_happening {f : State → State} {s t : State} (ht : happening f s = .next t)
    (hf : NoneSynced s (f s)) : NoneSynced s t := by
  obtain rfl | rfl := happening_cases ht
  · exact .refl t
  · exact hf.frame rfl

theorem NoneSynced.of_readHappening {f : State → Byte × State} {s t : State} (ht : readHappening f s = .next t)
    (hf : (f s).2.stations = s.stations) : NoneSynced s t := by
  obtain rfl | rfl := readHappening_cases ht
  · exact (NoneSynced.refl s).frame rfl
  · exact (NoneSynced.refl s).frame hf

/-- Every command but a delivered character makes no station SYNCED. -/
theorem noneSynced_of_exec {c : Instr} {s t : State} (hc : ∀ l samples, c ≠ .characterReceived l samples)
    (ht : exec c s = .next t) : NoneSynced s t := by
  have h := NoneSynced.refl s
  cases c <;> dsimp only [exec] at ht
  case characterReceived l samples => exact absurd rfl (hc l samples)
  case hardwareReset straps =>
    cases ht
    refine .of_unsync s fun l i => ?_
    have hline : (s.releaseReset straps).stationLine l = StationLine.reset := Table.look_fill ..
    rw [hline]
    exact congrArg Station.sync (Table.look_fill 31 Station.reset i)
  case resetInputActive =>
    cases ht
    exact h.frame rfl
  case softReset => exact .of_happening ht (.softReset s s)
  case abortCmd => exact .of_happening ht h.abort
  case discardHead => exact .of_happening ht h.discard
  case busEnable | resultDma | eventMaskWrite | tick => exact .of_happening ht (h.frame rfl)
  case responseRead => exact .of_readHappening ht s.readResponse_stations
  case resultRead => exact .of_readHappening ht s.readResult_stations
  case causeRead => exact .of_readHappening ht s.readCause_stations
  case tickLowRead => exact .of_readHappening ht rfl
  case dataRead => exact .of_readHappening ht (s.dataOut_stations _ _)
  case dmaReadAck tc => exact .of_readHappening ht (s.dataOut_stations _ tc)
  case dataWrite b => exact .of_happening ht (h.frame (s.dataIn_stations b _ _))
  case dmaWriteAck b tc => exact .of_happening ht (h.frame (s.dataIn_stations b _ tc))
  case ignoredWrite offset b =>
    unfold execIgnoredWrite at ht
    split at ht
    · cases ht
      exact h
    · exact .of_happening ht (h.writeAt offset b)
  case cycleStart l => exact .of_happening ht (h.frame (s.cycleDue_stations l))
  case pollClaim l => exact .of_happening ht (h.frame (s.claim_stations l))
  case take l => exact .of_happening ht (h.frame (s.takeHead_stations l))
  case leadTimerExpiry l => exact .of_happening ht (h.frame (s.leadExpired_stations l))
  case guardSpaceHeard l => exact .of_happening ht (h.frame (s.guardSpace_stations l))
  case characterSent l readBack => exact .of_happening ht (h.characterEnded l readBack)
  case holdTimerExpiry l => exact .of_happening ht (h.holdExpired l)
  case replyTimeout l => exact .of_happening ht (h.replyExpired l)
  case startBitTaken l => exact .of_happening ht (h.frame (s.startBit_stations l))
  case gapLimitExpiry l => exact .of_happening ht (h.gapExpired l)
  case settleQuiet l => exact .of_happening ht (h.frame (s.settled_stations l))
  case stuckTimerExpiry l => exact .of_happening ht (h.frame (s.stuckExpired_stations l))
  case receiverReArm l => exact .of_happening ht (h.frame (s.reArm_stations l))
  case opcodeByte | parameterByte | commandWriteDropped | submit | cancel | purge | lineSet | lineOn | lineOff | lineReset |
      pollSet | pollRun | pollHalt | stationSet | queryPool | querySlot | queryLine | queryStation | queryChanges |
      queryEntry | queueSet => exact .of_happening ht (h.writeCommand _)

/-- Settles O57: no other command makes a station SYNCED, and a delivered character does so by completing its good
RESYNC_ACK. -/
theorem syncedOnlyByResyncAck : Obligations.SyncedOnlyByResyncAck := by
  intro c s t l a ht hbefore hafter k
  by_cases hc : ∃ m samples, c = .characterReceived m samples
  · obtain ⟨m, samples, rfl⟩ := hc
    dsimp only [exec] at ht
    obtain rfl | rfl := happening_cases ht
    · exact nomatch hbefore.symm.trans hafter
    · obtain ⟨rfl, htoggle, hstate, hphase, n, data, hn, hstation, hpending, rfl, hcount, hlast, hgood⟩ :=
        State.characterDelivered_synced hbefore hafter
      exact ⟨htoggle, hstate, hphase, n, data, hn, hstation, hpending, rfl, hcount, hlast, hgood⟩
  · have hnone := noneSynced_of_exec (fun m samples heq => hc ⟨m, samples, heq⟩) ht
    exact nomatch (hnone l a hbefore).symm.trans hafter

end Sys2Proof.Machine
end

/-! # The Poll Scheduler (chapter 6)

SUPPORT. Cycle starts, claims, and the completion of POLL slots, each first as an equation of its whole effect. -/

/-! ### Schedulers and poll entries rewritten -/

section
namespace Sys2Proof.Machine

theorem State.setSched_setSched (s : State) (l : Line) (p q : Scheduler) :
    (s.setSched l p).setSched l q = s.setSched l q := by
  simp [State.setSched]

/-- What every poll entry reads as after one is replaced. -/
theorem State.setEntry_entry (s : State) (l k : Line) (e i : EntryNo) (x : PollEntry) :
    (s.setEntry l e x).entry k i = if k = l ∧ i = e then x else s.entry k i := by
  unfold State.setEntry State.entry
  rw [State.setSched_sched]
  by_cases hline : l = k
  · subst hline
    rw [if_pos rfl, Table.look_put]
    simp only [true_and, eq_comm (a := e)]
  · rw [if_neg hline, if_neg fun ⟨hk, _⟩ => hline hk.symm]

/-- An entry is no part of a scheduler's own fields. -/
theorem State.setEntry_sched (s : State) (l k : Line) (e : EntryNo) (x : PollEntry) :
    (s.setEntry l e x).sched k = { s.sched k with entries := ((s.setEntry l e x).sched k).entries } := by
  unfold State.setEntry
  rw [State.setSched_sched]
  split
  · next hline => rw [hline]
  · rfl

theorem State.setEntry_setEntry (s : State) (l : Line) (e : EntryNo) (x y : PollEntry) :
    (s.setEntry l e x).setEntry l e y = s.setEntry l e y := by
  simp [State.setEntry, State.setSched, State.sched]

/-- Schedulers and entries are read from the schedulers' table alone. -/
theorem State.sched_congr {s t : State} (h : t.scheds = s.scheds) : t.sched = s.sched := by
  unfold State.sched
  rw [h]

theorem State.entry_congr {s t : State} (h : t.scheds = s.scheds) : t.entry = s.entry := by
  unfold State.entry
  rw [State.sched_congr h]

end Sys2Proof.Machine
end

/-! ### Cycle starts (R105, R107, R108, R109, R132, R156) -/

section
namespace Sys2Proof.Machine

/-- An entry is due when it is enabled, has no live slot, and its station is not OFFLINE or the cycle is a probe cycle (R108,
R109). -/
theorem State.judge_eq_due_iff (s : State) (l : Line) (number : Word16) (e : EntryNo) :
    s.judge l number e = .due ↔
      (s.entry l e).definition.enabled = true ∧ (s.entry l e).live = none ∧
        (s.derivedOf l (s.entry l e).definition.station ≠ .offline ∨
          number.toNat % (s.engine l).config.probeInterval = 0) := by
  unfold State.judge probeCycle
  dsimp only
  cases (s.entry l e).definition.enabled with
  | false => simp
  | true =>
    cases (s.entry l e).live with
    | some n => simp
    | none => simp [imp_iff_not_or]

/-- An entry is passed over as an overrun when it is enabled and has a live slot (R108). -/
theorem State.judge_eq_overrun_iff (s : State) (l : Line) (number : Word16) (e : EntryNo) :
    s.judge l number e = .overrun ↔ (s.entry l e).definition.enabled = true ∧ (s.entry l e).live ≠ none := by
  unfold State.judge
  dsimp only
  cases (s.entry l e).definition.enabled with
  | false => simp
  | true =>
    cases (s.entry l e).live with
    | some n => simp
    | none =>
      simp only [Bool.not_true, Bool.false_eq_true, if_false, Option.isSome_none, ne_eq, not_true, and_false, iff_false]
      split <;> nofun

theorem State.dueEntries_eq (s : State) (l : Line) (number : Word16) :
    s.dueEntries l number =
      (List.finRange 16).filter fun i =>
        (s.entry l i).definition.enabled && (s.entry l i).live.isNone &&
          (decide (s.derivedOf l (s.entry l i).definition.station ≠ .offline) ||
            decide (number.toNat % (s.engine l).config.probeInterval = 0)) := by
  refine List.filter_congr fun i _ => ?_
  rw [Bool.eq_iff_iff, beq_iff_eq, State.judge_eq_due_iff]
  simp only [Bool.and_eq_true, Bool.or_eq_true, decide_eq_true_eq, Option.isNone_iff_eq_none, and_assoc]

theorem State.overruns_iff (s : State) (l : Line) (number : Word16) :
    s.overruns l number = true ↔
      ∃ i : EntryNo, (s.entry l i).definition.enabled = true ∧ (s.entry l i).live ≠ none := by
  unfold State.overruns
  simp only [List.any_eq_true, List.mem_finRange, true_and, beq_iff_eq, State.judge_eq_overrun_iff]

/-- The state in which a cycle has started for a line whose scheduler stood as given: the claims left over are dropped, the
cycle takes its number, the timer returns to 0, and unless the queue is HELD the entries are judged. -/
def State.cycleStarted (s : State) (l : Line) (p : Scheduler) : State :=
  { s with scheds := s.scheds.put l
             { p with due := if s.queue.hold = .held then [] else s.dueEntries l p.cycleNumber,
                      cycleNumber := p.cycleNumber + 1, cycleTimer := 0 },
           events := { s.events with overrun :=
             if s.queue.hold = .freeRunning ∧ s.overruns l p.cycleNumber = true then s.events.overrun.put l true
             else s.events.overrun } }

/-- Everything a cycle start does. -/
theorem State.startCycle_eq (s : State) (l : Line) : s.startCycle l = s.cycleStarted l (s.sched l) := by
  unfold State.startCycle State.cycleStarted
  cases s.queue.hold with
  | held =>
    simp only [if_true, reduceCtorEq, false_and, if_false]
    rfl
  | freeRunning =>
    simp only [reduceCtorEq, if_false, true_and, State.modSched_eq, State.setSched_sched_same]
    cases s.overruns l (s.sched l).cycleNumber with
    | true => simp only [if_true, State.raiseOverrun, State.setSched, Table.put_put]
    | false => simp only [Bool.false_eq_true, if_false, State.setSched, Table.put_put]

/-- Cycle number, period, run state, timer and due list play no part in the judgement of the entries. -/
theorem State.judge_setSched (s : State) (l : Line) {p : Scheduler} (h : p.entries = (s.sched l).entries) :
    (s.setSched l p).judge l = s.judge l := by
  have hentry : (s.setSched l p).entry l = s.entry l := by
    unfold State.entry
    rw [State.setSched_sched_same, h]
  unfold State.judge
  rw [hentry]
  rfl

/-- A cycle start of a scheduler that has just been rewritten, its entries left alone. -/
theorem State.startCycle_setSched (s : State) (l : Line) {p : Scheduler} (h : p.entries = (s.sched l).entries) :
    (s.setSched l p).startCycle l = s.cycleStarted l p := by
  rw [State.startCycle_eq, State.setSched_sched_same]
  unfold State.cycleStarted State.dueEntries State.overruns
  rw [State.judge_setSched s l h, State.setSched_scheds, Table.put_put]
  rfl

/-- The bytes of a line and of a period from 1 to 65535 ask for that POLL_RUN. -/
theorem parseRequest_pollRun_bytes (l : Line) {period : Nat} (hlow : 1 ≤ period) (hhigh : period ≤ 65535) :
    parseRequest .pollRun [byteOf l.val, lowByte (BitVec.ofNat 16 period), highByte (BitVec.ofNat 16 period)] =
      .ok (.pollRun l period) := by
  have hword : (wordOf (lowByte (BitVec.ofNat 16 period)) (highByte (BitVec.ofNat 16 period))).toNat = period := by
    rw [wordOf_toNat, lowByte, highByte, BitVec.extractLsb'_toNat, BitVec.extractLsb'_toNat, BitVec.toNat_ofNat]
    omega
  have hline : (byteOf l.val).toNat ≤ 3 := by
    change l.val % 256 ≤ 3
    omega
  refine (checked_eq_ok_iff _ _ _).2 ⟨by rw [lineOf_byteOf, hword], ?_⟩
  simp [within_iff, hword, hline, hlow]

/-- POLL_RUN taken on an ON line sets its scheduler going, starts a cycle and answers DONE (R105, R156). -/
theorem State.takePollRun_of_on {s : State} {l : Line} (hon : (s.engine l).mode = .on) (period : Nat) :
    s.takePollRun l period = (s.cycleStarted l ((s.sched l).runWith period)).postDone := by
  rw [State.takePollRun, State.ifPresent_of_present (by simp [hon]), if_pos hon, State.modSched_eq,
    State.startCycle_setSched s l (p := (s.sched l).runWith period) rfl]

/-- Settles O32: a cycle start by the timer and one within a POLL_RUN write the same, of the scheduler as each finds it. -/
theorem cycleStartJudgesItsEntries : Obligations.CycleStartJudgesItsEntries := by
  intro s l p due overrun started
  have hstarted (q : Scheduler) : s.cycleStarted l q = started q := by
    unfold State.cycleStarted
    simp only [State.dueEntries_eq, State.overruns_iff]
    dsimp only [started, overrun]
    simp only [decide_eq_true_eq]
    rfl
  refine ⟨fun hs hrun hperiod => ?_, fun period hlow hhigh hc hon => ?_⟩
  · rw [← hstarted, ← State.startCycle_eq]
    refine (happening_of_running hs fun t => t.cycleDue l).trans ?_
    rw [State.cycleDue, if_pos ⟨hrun, hperiod⟩]
  · rw [← hstarted]
    refine (exec_of_request hc rfl (parseRequest_pollRun_bytes l hlow hhigh)).trans ?_
    rw [State.takeRequest, State.takePollRun_of_on (s := s.collected (_ ++ _)) hon]
    rfl

end Sys2Proof.Machine
end

/-! ### Claims (R111, R112, R23, R25, R29, R47, R48) -/

section
namespace Sys2Proof.Machine

/-- What a claim that is taken off the due list and deferred writes: its scheduler's list and deferral count (R112). -/
theorem State.defer_claimed (s : State) (l : Line) (rest : List EntryNo) :
    (s.setSched l { s.sched l with due := rest }).defer l =
      { s with scheds := s.scheds.put l
                 { s.sched l with due := rest, deferrals := min 255 ((s.sched l).deferrals + 1) } } := by
  simp only [State.defer, State.modSched_eq, State.setSched_sched_same, State.setSched_setSched]
  rfl

/-- The grant of a poll creation in numbers: 3 slots FREE before it, and the blocks needed beside the host reserve (R25, R47,
R48). -/
theorem State.pollGranted_iff (s : State) (d : PollDef) :
    s.pollGranted d = true ↔
      3 ≤ s.freeSlots ∧ s.pool.hostReserve + 1 + (d.replyRoom + 15) / 16 ≤ s.pool.free.length := by
  unfold State.pollGranted pollSlotReserve blocksFor State.freeCount
  simp only [Bool.and_eq_true, decide_eq_true_eq]
  omega

/-- A FREE slot below which no slot is FREE is the lowest one (R23). -/
theorem State.lowestFree_eq_some {s : State} {n : SlotNo} (hfree : (s.slot n).state = .free)
    (hleast : ∀ m : SlotNo, m < n → (s.slot m).state ≠ .free) : s.lowestFree = some n := by
  refine List.find?_eq_some_iff_getElem.2 ⟨beq_iff_eq.2 hfree, n.val, by simp, by simp, fun j hj => ?_⟩
  have hbelow := hleast ⟨j, by omega⟩ hj
  simpa [Slot.isFree] using hbelow

/-- POLL is the last class, so a slot of that class joins a queue at its end (R29, R66). -/
theorem State.atTailOfClass_of_poll {s : State} {n : SlotNo} (h : (s.slot n).cls = .poll) (q : List SlotNo) :
    s.atTailOfClass q n = q ++ [n] := by
  have hlast : ∀ m ∈ q, decide (s.rankOf m ≤ s.rankOf n) = true := by
    intro m _
    rw [decide_eq_true_iff, State.rankOf, State.rankOf, h]
    cases (s.slot m).cls <;> decide
  unfold State.atTailOfClass
  rw [List.takeWhile_eq_self_iff.2 hlast, List.dropWhile_eq_nil_iff.2 hlast]

/-- The slot that a granted poll creation makes (R25, R47): its request takes the first block of the free list, its reply the
next ones. -/
def State.createdPollSlot (s : State) (l : Line) (i : EntryNo) (d : PollDef) : Slot :=
  { pollSlot l i d with requestChain := s.pool.free.take 1,
                        replyChain := (s.pool.free.drop 1).take (blocksFor d.replyRoom) }

/-- The request of a poll is its item code, one byte in one block (R25). -/
theorem pollSlot_requestBlocks (l : Line) (i : EntryNo) (d : PollDef) : blocksFor (pollSlot l i d).requestLength = 1 := by
  change blocksFor 1 = 1
  decide

/-- The creation of the slot, before its item code is written and it joins its queue. -/
theorem State.create_pollSlot (s : State) (l : Line) (i : EntryNo) (d : PollDef) (n : SlotNo) :
    s.create n (pollSlot l i d) =
      { s with slots := s.slots.put n (s.createdPollSlot l i d), pool := (s.lend (1 + blocksFor d.replyRoom)).pool } := by
  unfold State.create
  rw [pollSlot_requestBlocks]
  rfl

/-- A slot of class POLL that is QUEUED already joins the end of its line's queue. -/
theorem State.joinTail_of_poll {s : State} {n : SlotNo} (hqueued : (s.slot n).state = .queued)
    (hclass : (s.slot n).cls = .poll) :
    s.joinTail n =
      s.setEngine (s.slot n).line
        { s.engine (s.slot n).line with queue := (s.engine (s.slot n).line).queue ++ [n] } := by
  have hsame : s.setSlot n { s.slot n with state := .queued } = s := by
    rw [← hqueued]
    exact congrArg (fun t => { s with slots := t }) (s.slots.put_look n)
  rw [State.joinTail_eq, hsame, State.atTailOfClass_of_poll hclass]

/-- Everything a granted poll creation does (R25, R111). -/
theorem State.createPoll_eq (s : State) (l : Line) (i : EntryNo) (d : PollDef) (n : SlotNo) :
    s.createPoll l i d n =
      { s with slots := s.slots.put n (s.createdPollSlot l i d),
               pool := { (s.lend (1 + blocksFor d.replyRoom)).pool with
                 mem := (s.putChainByte (s.pool.free.take 1) 0 d.item).pool.mem },
               engines := s.engines.put l { s.engine l with queue := (s.engine l).queue ++ [n] },
               scheds := (s.setEntry l i { s.entry l i with live := some n }).scheds } := by
  have hchain : ((s.create n (pollSlot l i d)).slot n).requestChain = s.pool.free.take 1 := by
    rw [State.create_slot_same, pollSlot_requestBlocks]
  have hstored : (s.create n (pollSlot l i d)).putChainByte (s.pool.free.take 1) 0 d.item =
      { s with slots := s.slots.put n (s.createdPollSlot l i d),
               pool := { (s.lend (1 + blocksFor d.replyRoom)).pool with
                 mem := (s.putChainByte (s.pool.free.take 1) 0 d.item).pool.mem } } := by
    rw [State.create_pollSlot]
    unfold State.putChainByte
    cases chainAddress (s.pool.free.take 1) 0 <;> rfl
  have hslot : ((s.create n (pollSlot l i d)).putChainByte (s.pool.free.take 1) 0 d.item).slot n =
      s.createdPollSlot l i d := by
    rw [hstored]
    exact Table.look_put_same ..
  unfold State.createPoll
  dsimp only
  rw [hchain, State.joinTail_of_poll (congrArg Slot.state hslot) (congrArg Slot.cls hslot), hslot, hstored]
  rfl

section
variable {s : State} {l : Line} {i : EntryNo} {rest : List EntryNo} (hrun : (s.sched l).run = .running)
  (hdue : (s.sched l).due = i :: rest)
include hrun hdue

/-- A claim of an entry that has been disabled leaves the due list, and nothing more happens (R111). -/
theorem State.claim_of_disabled (hoff : (s.entry l i).definition.enabled = false) :
    s.claim l = s.setSched l { s.sched l with due := rest } := by
  unfold State.claim
  rw [hrun, hdue]
  dsimp only
  rw [hoff]
  rfl

/-- A claim that is not granted is a deferral (R112). -/
theorem State.claim_of_refused (hon : (s.entry l i).definition.enabled = true)
    (hrefused : ¬ s.pollGranted (s.entry l i).definition = true) :
    s.claim l = (s.setSched l { s.sched l with due := rest }).defer l := by
  unfold State.claim
  rw [hrun, hdue]
  dsimp only
  rw [hon]
  cases s.lowestFree with
  | none => rfl
  | some n => exact if_neg hrefused

/-- A claim that is granted creates the slot in the lowest FREE one (R25, R111). -/
theorem State.claim_of_granted (hon : (s.entry l i).definition.enabled = true)
    (hgranted : s.pollGranted (s.entry l i).definition = true) {n : SlotNo} (hn : s.lowestFree = some n) :
    s.claim l =
      (s.setSched l { s.sched l with due := rest }).createPoll l i (s.entry l i).definition n := by
  unfold State.claim
  rw [hrun, hdue]
  dsimp only
  rw [hon, hn]
  exact if_pos hgranted

end

/-- Taking a claim off the due list leaves the entries alone. -/
theorem State.setDue_entry (s : State) (l : Line) (rest : List EntryNo) (i : EntryNo) :
    (s.setSched l { s.sched l with due := rest }).entry l i = s.entry l i := by
  unfold State.entry
  rw [State.setSched_sched_same]

/-- Settles O33: a claim of a disabled entry, one that is deferred, and one that is granted. -/
theorem claimCreatesAPollSlotOrDefers : Obligations.ClaimCreatesAPollSlotOrDefers := by
  intro s l i rest hs hrun hdue d claimed freeSlots reply granted
  have hgranted : s.pollGranted d = true ↔ granted := s.pollGranted_iff d
  have hexec : exec (.pollClaim l) s = .next (s.claim l).drive := happening_of_running hs fun t => t.claim l
  rw [hexec]
  refine ⟨fun hoff => ?_, fun hon hrefused => ?_, fun n hon hgrant hfree hleast hwf => ?_⟩
  · rw [State.claim_of_disabled hrun hdue hoff]
    rfl
  · rw [State.claim_of_refused hrun hdue hon (mt hgranted.1 hrefused), State.defer_claimed]
  · have hclaim := State.claim_of_granted hrun hdue hon (hgranted.2 hgrant) (State.lowestFree_eq_some hfree hleast)
    rw [State.createPoll_eq, State.setDue_entry] at hclaim
    rw [hclaim]
    refine ⟨_, rfl, Table.look_put_same .., fun m hm => Table.look_put_ne _ _ hm.symm, rfl, rfl, fun a => ?_, rfl, ?_,
      rfl⟩
    · exact State.putChainByte_read (s.setSched l claimed) _ 0 d.item hwf a
    · simp only [State.drive_scheds, State.setEntry, State.setSched_scheds, State.setSched_sched_same, Table.put_put]
      rfl

end Sys2Proof.Machine
end

/-! ### The completion of a POLL slot (R113 to R116, R36, R49, R20, R104, R124, R132) -/

section
namespace Sys2Proof.Machine

/-- The policies that report an answer of a digest (R114). -/
theorem PollEntry.reports_iff (e : PollEntry) (d : Word16) :
    e.reports d = true ↔
      e.definition.policy = .always ∨ (e.definition.policy = .onChange ∧ e.digest ≠ some d) := by
  unfold PollEntry.reports
  cases e.definition.policy <;> simp

/-- The tag of a POLL slot names its entry (R25). -/
theorem Slot.entryNo_of_tag {x : Slot} {i : EntryNo} (h : x.tag = byteOf i.val) : x.entryNo = i := by
  refine ((Slot.eq_entryNo_iff x i).2 ?_).symm
  rw [h]
  change i.val = i.val % 256 % 16
  omega

/-- The poll entry of a POLL slot. -/
abbrev State.entryOfSlot (s : State) (n : SlotNo) : PollEntry := s.entry (s.slot n).line (s.slot n).entryNo

/-- The completion of a POLL slot makes a report: a good answer that the entry's policy reports (R114, R115). -/
abbrev PollReported (s : State) (n : SlotNo) (o : TransactionOutcome) : Prop :=
  o = .ok ∧ (s.entryOfSlot n).reports (s.replyDigest n) = true

section
variable {s : State} {n : SlotNo} {o : TransactionOutcome}

/-- A reported poll: the entry takes the digest, and the slot joins the Completion Queue (R115). -/
theorem State.pollHandOn_of_reported (h : PollReported s n o) :
    s.pollHandOn n o =
      (s.handToQueue n .pollReport).setEntry (s.slot n).line (s.slot n).entryNo
        { s.entryOfSlot n with digest := some (s.replyDigest n) } := by
  obtain ⟨rfl, hreports⟩ := h
  unfold State.pollHandOn
  dsimp only
  rw [if_pos rfl, if_pos hreports]
  rfl

/-- A poll without a report: the entry takes the digest of a good answer and loses any other, and the slot is FREE, so that
the live slot is absent (R115, R116). -/
theorem State.pollHandOn_of_silent (h : ¬ PollReported s n o) :
    s.pollHandOn n o =
      (s.freeSlot n).setEntry (s.slot n).line (s.slot n).entryNo
        { s.entryOfSlot n with digest := if o = .ok then some (s.replyDigest n) else none, live := none } := by
  unfold State.pollHandOn
  by_cases ho : o = .ok
  · have hsilent : ¬ (s.entryOfSlot n).reports (s.replyDigest n) = true := fun hr => h ⟨ho, hr⟩
    rw [if_pos ho]
    dsimp only
    rw [if_neg hsilent, if_pos ho]
    have hentry : ((s.modEntry (s.slot n).line (s.slot n).entryNo fun x =>
        { x with digest := some (s.replyDigest n) }).freeSlot n).entry (s.slot n).line (s.slot n).entryNo =
          { s.entryOfSlot n with digest := some (s.replyDigest n) } :=
      (State.setEntry_entry ..).trans (if_pos ⟨rfl, rfl⟩)
    rw [State.modEntry, hentry]
    exact (s.freeSlot n).setEntry_setEntry ..
  · rw [if_neg ho, if_neg ho]
    rfl

/-- A POLL slot is handed on to its scheduler after the desynchronization rule (R35, R113). -/
theorem State.complete_of_poll (h : (s.slot n).origin = .poll) :
    s.complete n o = ((s.desync n o).setSlot n ((s.slot n).ended o s.tick)).pollHandOn n o := by
  have hpoll : (((s.desync n o).setSlot n ((s.slot n).ended o s.tick)).slot n).origin = .poll := by
    rw [State.setSlot_slot_same]
    exact h
  calc
    s.complete n o = ((s.desync n o).setSlot n ((s.slot n).ended o s.tick)).handOn n o :=
      congrArg (State.handOn · n o) (s.desync_setSlot o rfl rfl rfl)
    _ = _ := by rw [State.handOn, hpoll]

/-- Outcome, done time and the station's sync play no part in the entry of a slot and the digest of its reply. -/
theorem State.entryOfSlot_ended :
    ((s.desync n o).setSlot n ((s.slot n).ended o s.tick)).entryOfSlot n = s.entryOfSlot n := by
  unfold State.entryOfSlot
  rw [State.setSlot_slot_same, State.desync_frame]
  rfl

theorem State.replyDigest_ended :
    ((s.desync n o).setSlot n ((s.slot n).ended o s.tick)).replyDigest n = s.replyDigest n := by
  unfold State.replyDigest
  rw [State.setSlot_slot_same, State.desync_frame]
  rfl

theorem pollReported_ended :
    PollReported ((s.desync n o).setSlot n ((s.slot n).ended o s.tick)) n o ↔ PollReported s n o := by
  unfold PollReported
  rw [State.entryOfSlot_ended, State.replyDigest_ended]

/-- Everything the completion of a POLL slot does when it makes a report. -/
theorem State.complete_of_reported (hpoll : (s.slot n).origin = .poll) (h : PollReported s n o) :
    s.complete n o =
      { s with slots := s.slots.put n { s.slot n with state := .done, outcome := some o, doneTime := s.tick },
               stations := (s.desync n o).stations,
               queue := appended s.queue
                 { slot := n, kind := .pollReport, derived := s.derivedOf (s.slot n).line (s.slot n).station },
               scheds := (s.setEntry (s.slot n).line (s.slot n).entryNo
                 { s.entryOfSlot n with digest := some (s.replyDigest n) }).scheds } := by
  rw [State.complete_of_poll hpoll, State.pollHandOn_of_reported (pollReported_ended.2 h), State.entryOfSlot_ended,
    State.replyDigest_ended, State.setSlot_slot_same,
    s.handToQueue_desync (y := (s.slot n).ended o s.tick) o .pollReport rfl rfl]
  rfl

/-- Everything the completion of a POLL slot does when it makes no report. -/
theorem State.complete_of_silent (hpoll : (s.slot n).origin = .poll) (h : ¬ PollReported s n o) :
    s.complete n o =
      { s with slots := s.slots.put n Slot.cleared,
               stations := (s.desync n o).stations,
               pool := { s.pool with free := s.pool.free ++ (s.slot n).requestChain ++ (s.slot n).replyChain },
               scheds := (s.setEntry (s.slot n).line (s.slot n).entryNo
                 { s.entryOfSlot n with digest := if o = .ok then some (s.replyDigest n) else none,
                                        live := none }).scheds } := by
  rw [State.complete_of_poll hpoll, State.pollHandOn_of_silent (mt pollReported_ended.1 h), State.entryOfSlot_ended,
    State.replyDigest_ended, State.setSlot_slot_same, State.freeSlot_eq, State.setSlot_slot_same, State.desync_frame,
    State.setSlot_slots, Table.put_put]
  rfl

end

/-- What the completion of a POLL slot does with a report and without one: the Station Table is that of the desynchronization
rule, of the schedulers the slot's entry alone is written, and engines, links, ports and pins stay. -/
theorem State.complete_of_poll_frame (s : State) (n : SlotNo) (o : TransactionOutcome) (h : (s.slot n).origin = .poll) :
    (s.complete n o).stations = (s.desync n o).stations ∧
    (∃ x, (s.complete n o).scheds = (s.setEntry (s.slot n).line (s.slot n).entryNo x).scheds) ∧
    s.complete n o =
      { s with slots := (s.complete n o).slots, pool := (s.complete n o).pool, queue := (s.complete n o).queue,
               stations := (s.complete n o).stations, scheds := (s.complete n o).scheds } := by
  by_cases hreported : PollReported s n o
  · rw [State.complete_of_reported h hreported]
    exact ⟨rfl, ⟨_, rfl⟩, rfl⟩
  · rw [State.complete_of_silent h hreported]
    exact ⟨rfl, ⟨_, rfl⟩, rfl⟩

/-- Settles O50: the whole effect of the completion with a report and without one, and what it leaves of the entries, the
stations and the schedulers either way. -/
theorem pollSlotCompletes : Obligations.PollSlotCompletes := by
  intro s n o i hpoll htag
  obtain rfl : (s.slot n).entryNo = i := Slot.entryNo_of_tag htag
  intro x old digest reported t
  have hreported : PollReported s n o ↔ reported := and_congr_right fun _ => PollEntry.reports_iff ..
  obtain ⟨hstations, ⟨y, hscheds⟩, hframe⟩ := s.complete_of_poll_frame n o hpoll
  have hsched : t.sched = (s.setEntry x.line x.entryNo y).sched := State.sched_congr hscheds
  have hentry : t.entry = (s.setEntry x.line x.entryNo y).entry := State.entry_congr hscheds
  refine ⟨fun h => ?_, fun h => ?_, fun l j hother => ?_, fun l a => ?_, fun l => ⟨?_, ?_⟩, hframe⟩
  · have hdone := State.complete_of_reported hpoll (hreported.2 h)
    obtain ⟨rfl, -⟩ := h
    dsimp only [t]
    rw [hdone]
    exact ⟨rfl, rfl, rfl, (s.setEntry_entry ..).trans (if_pos ⟨rfl, rfl⟩)⟩
  · dsimp only [t]
    rw [State.complete_of_silent hpoll (mt hreported.1 h)]
    exact ⟨rfl, rfl, rfl, (s.setEntry_entry ..).trans (if_pos ⟨rfl, rfl⟩)⟩
  · rw [hentry, State.setEntry_entry, if_neg fun ⟨hl, hj⟩ => hother.elim (· hl) (· hj)]
  · rw [State.station_congr hstations]
    exact State.desync_station ..
  · rw [State.stationLine_congr hstations]
    exact State.desync_changes ..
  · rw [hsched]
    exact s.setEntry_sched ..

end Sys2Proof.Machine
end

/-! # The Completion Queue's marks and readout

SUPPORT. The codes of a record header, a read of RESULT case by case, and the bits of MAIN STATUS. -/

/-! ### QUEUE_SET (R134, R159, R132, R48) -/

section
namespace Sys2Proof.Machine

theorem byteOf_toNat {n : Nat} (h : n < 256) : (byteOf n).toNat = n := Nat.mod_eq_of_lt h

/-- The bytes of marks, a trigger and a reserve in range ask for that QUEUE_SET. -/
theorem parseRequest_queueSet_bytes {high low trigger reserve : Nat} (hhigh : 1 ≤ high ∧ high ≤ 16) (hlow : low < high)
    (htrigger : 1 ≤ trigger ∧ trigger ≤ 16) (hreserve : reserve ≤ 64) :
    parseRequest .queueSet [byteOf high, byteOf low, byteOf trigger, byteOf reserve] =
      .ok (.queueSet high low trigger reserve) := by
  have hhighByte : (byteOf high).toNat = high := byteOf_toNat (by omega)
  have hlowByte : (byteOf low).toNat = low := byteOf_toNat (by omega)
  have htriggerByte : (byteOf trigger).toNat = trigger := byteOf_toNat (by omega)
  have hreserveByte : (byteOf reserve).toNat = reserve := byteOf_toNat (by omega)
  refine (checked_eq_ok_iff _ _ _).2 ⟨by rw [hhighByte, hlowByte, htriggerByte, hreserveByte], ?_⟩
  simp only [List.forall_mem_cons, Bool.and_eq_true, decide_eq_true_iff, within_iff, hhighByte, hlowByte, htriggerByte,
    hreserveByte]
  exact ⟨hhigh, ⟨by omega, hlow⟩, htrigger, by omega, nofun⟩

/-- Settles O22: the four bytes ask for the QUEUE_SET of their values, whose marks the hold state is evaluated with. -/
theorem queueSetEvaluatesTheHoldState : Obligations.QueueSetEvaluatesTheHoldState := by
  intro s high low trigger reserve hhigh hhigh' hlow htrigger htrigger' hreserve hc
  have hparsed := parseRequest_queueSet_bytes ⟨hhigh, hhigh'⟩ hlow ⟨htrigger, htrigger'⟩ hreserve
  exact exec_of_request hc rfl hparsed

end Sys2Proof.Machine
end

/-! ### The record header (R125 to R128, section 11.6) -/

section
namespace Sys2Proof.Machine

theorem Derived.code_toNat (d : Derived) :
    d.code.toNat =
      match d with
      | .unknown => 0
      | .online => 1
      | .suspect => 2
      | .offline => 3 := by
  cases d <;> rfl

/-- The code of an outcome that is there, and 0 for none (section 11.6). -/
theorem outcomeCode_eq (o : Option TransactionOutcome) :
    outcomeCode o =
      match o with
      | none => 0
      | some o => o.code := by
  cases o <;> rfl

/-- Out of reset a read of RESULT drives its byte onto the data bus (R126). -/
theorem exec_resultRead {s : State} (hs : s.inReset = false) :
    exec .resultRead s = .next (State.drive { s.readResult.2 with dataBus := s.readResult.1 }) :=
  readHappening_of_running hs State.readResult

section
variable {s : State} {r : Record} {rest : List Record}

/-- Before the tenth byte a read of RESULT moves the header position on and nothing else (R126). -/
theorem State.readResult_of_early (h : s.queue.records = r :: rest) (hpos : s.queue.headerPos < 9) :
    s.readResult = ((s.header r).getD s.queue.headerPos 0,
      { s with queue := { s.queue with headerPos := s.queue.headerPos + 1 } }) := by
  have hdue : s.queue.headerPos < headerLength := hpos.trans (by decide)
  have hmore : s.queue.headerPos + 1 ≠ headerLength := (Nat.succ_lt_succ hpos).ne
  unfold State.readResult
  rw [h]
  dsimp only
  rw [if_pos hdue, if_neg hmore]
  rfl

/-- The tenth byte ends the header (R127). -/
theorem State.readResult_of_last (h : s.queue.records = r :: rest) (hpos : s.queue.headerPos = 9) :
    s.readResult = ((s.header r).getD 9 0, s.headerEnd r) := by
  have hdue : s.queue.headerPos < headerLength := hpos.trans_lt (by decide)
  have htenth : s.queue.headerPos + 1 = headerLength := congrArg (· + 1) hpos
  unfold State.readResult
  rw [h]
  dsimp only
  rw [if_pos hdue, if_pos htenth, hpos]
  rfl

/-- With no header byte due a read of RESULT returns 0 and changes nothing (R128). -/
theorem State.readResult_of_none_due (h : s.queue.records = [] ∨ 10 ≤ s.queue.headerPos) : s.readResult = (0, s) := by
  unfold State.readResult
  split
  · rfl
  · next hrecords =>
    have hpos : 10 ≤ s.queue.headerPos := h.resolve_left (by simp [hrecords])
    exact if_neg hpos.not_gt

/-- The end of the header of a record with no payload retires it (R127). -/
theorem State.headerEnd_of_no_payload (h : (s.slot r.slot).replyLength.getD 0 = 0) : s.headerEnd r = s.retireHead := by
  simp [State.headerEnd, h]

/-- The end of the header of a record with a payload raises OUTFLOW for its length (R127, R164). -/
theorem State.headerEnd_of_payload (h : (s.slot r.slot).replyLength.getD 0 ≠ 0) :
    s.headerEnd r =
      { s with queue := { s.queue with headerPos := 10 },
               data := s.data.raiseOutflow { total := (s.slot r.slot).replyLength.getD 0, slot := r.slot } } := by
  obtain ⟨n, hn⟩ := Nat.exists_eq_succ_of_ne_zero h
  rw [State.headerEnd, hn]
  rfl

end

/-- Settles O23: the header position before the tenth byte, and the two ends of a header at the tenth. -/
theorem headerIsReadByteByByte : Obligations.HeaderIsReadByteByByte := by
  intro s r rest p hs hrecords hpos x length header raised
  have hheader : s.header r = header := by
    rw [State.header, Derived.code_toNat, outcomeCode_eq]
    rfl
  rw [exec_resultRead hs]
  by_cases hearly : p.val < 9
  · rw [State.readResult_of_early hrecords (hpos ▸ hearly), if_pos hearly, hheader, hpos]
  · have hlast : p.val = 9 := by omega
    rw [State.readResult_of_last hrecords (hpos.trans hlast), if_neg hearly, hheader]
    by_cases hempty : length = 0
    · rw [State.headerEnd_of_no_payload hempty, if_pos hempty]
    · rw [State.headerEnd_of_payload hempty, if_neg hempty]
      rfl

end Sys2Proof.Machine
end

/-! ### MAIN STATUS (R128, R141, R166, R183) -/

section
namespace Sys2Proof.Machine

theorem getLsbD_bitAt (n : Nat) (b : Bool) (i : Fin 8) : (bitAt n b).getLsbD i.val = (b && decide (n = i.val)) := by
  cases b with
  | false => exact BitVec.getLsbD_zero
  | true =>
    have hpow : (bitAt n true).getLsbD i.val = (decide (n < 8) && decide (n = i.val)) := BitVec.getLsbD_twoPow ..
    rw [hpow, Bool.true_and, Bool.and_eq_right_iff_imp]
    simp only [decide_eq_true_iff]
    omega

/-- Each bit of MAIN STATUS is its flag (the first table of R183). -/
theorem State.getLsbD_mainStatus (s : State) (i : Fin 8) :
    s.mainStatus.getLsbD i.val =
      match i with
      | 0 => s.cmdReady
      | 1 => s.respValid
      | 2 => s.headerAvail
      | 3 => s.payloadAvail
      | 4 => s.intakeWants
      | 5 => s.port.lost
      | 6 => s.eventFlag
      | 7 => s.events.busEnable := by
  simp only [State.mainStatus, BitVec.getLsbD_or, getLsbD_bitAt]
  match i with
  | 0 | 1 | 2 | 3 | 4 | 5 | 6 | 7 => simp

section
variable (s : State)

theorem State.cmdReady_iff : s.cmdReady = true ↔ s.port.state = .ready ∨ s.port.state = .collect := by
  simp [State.cmdReady]

theorem State.respValid_iff : s.respValid = true ↔ s.port.state = .respond := beq_iff_eq

theorem State.headerAvail_iff : s.headerAvail = true ↔ s.queue.records ≠ [] ∧ s.queue.headerPos < 10 := by
  rw [State.headerAvail, Bool.and_eq_true, decide_eq_true_iff]
  simp [headerLength]

theorem State.payloadAvail_iff : s.payloadAvail = true ↔ s.data.owner = .outflow := beq_iff_eq

theorem State.intakeWants_iff : s.intakeWants = true ↔ s.data.owner = .intake := beq_iff_eq

theorem State.eventFlag_iff : s.eventFlag = true ↔ SomethingUnmasked s := by
  rw [State.eventFlag_eq, decide_eq_true_iff]

end

/-- Out of reset a read of MAIN STATUS returns its byte and changes nothing (R182, R183). -/
theorem State.readAt_mainStatus {s : State} (hs : s.inReset = false) : s.readAt 1 = (s.mainStatus, s) := by
  simp [State.readAt, hs]

/-- Settles O24: the read of RESULT and the ignored write, and MAIN STATUS flag by flag. -/
theorem noHeaderByteIsDue : Obligations.NoHeaderByteIsDue := by
  intro s hs
  have hbit (i : Fin 8) := s.getLsbD_mainStatus i
  rw [State.readAt_mainStatus hs]
  refine ⟨fun hnone => ?_, fun b => rfl, ⟨?_, ?_, ?_, ?_, ?_, ?_, ?_, ?_⟩, rfl⟩
  · rw [exec_resultRead hs, State.readResult_of_none_due hnone]
  · exact (Bool.eq_iff_iff.1 (hbit 0)).trans s.cmdReady_iff
  · exact (Bool.eq_iff_iff.1 (hbit 1)).trans s.respValid_iff
  · exact (Bool.eq_iff_iff.1 (hbit 2)).trans s.headerAvail_iff
  · exact (Bool.eq_iff_iff.1 (hbit 3)).trans s.payloadAvail_iff
  · exact (Bool.eq_iff_iff.1 (hbit 4)).trans s.intakeWants_iff
  · exact Bool.eq_iff_iff.1 (hbit 5)
  · exact (Bool.eq_iff_iff.1 (hbit 6)).trans s.eventFlag_iff
  · exact Bool.eq_iff_iff.1 (hbit 7)

end Sys2Proof.Machine
end

/-! # The Command Port (chapter 8)

SUPPORT. The assembler byte by byte, the checks of a command's bytes, and each command's whole effect. The bytes that the port
has collected play no part in what the owning blocks do, so an effect is first an equation of the block's own operation. -/

section
namespace Sys2Proof.Machine

/-! #### The assembler (section 8.1) -/

/-- The thirteen opcode bytes, each with its command and the number of its parameter bytes (sections 8.3 and 11.5). -/
def opcodeTable : List (Byte × Opcode × Nat) :=
  [(0x10, .submit, 8), (0x11, .cancel, 1), (0x12, .purge, 1), (0x20, .lineSet, 9), (0x21, .lineOn, 1),
   (0x22, .lineOff, 2), (0x23, .lineReset, 1), (0x30, .pollSet, 8), (0x31, .pollRun, 3), (0x32, .pollHalt, 1),
   (0x40, .stationSet, 3), (0x50, .query, 3), (0x60, .queueSet, 4)]

theorem opcodeTable_read :
    ∀ x ∈ opcodeTable, Opcode.ofByte x.1 = some x.2.1 ∧ x.2.1.paramCount = x.2.2 := by decide

/-- A byte that is none of the thirteen names no command. -/
theorem Opcode.ofByte_of_not_listed {b : Byte} (h : ∀ x ∈ opcodeTable, b ≠ x.1) : Opcode.ofByte b = none := by
  simp only [opcodeTable, List.forall_mem_cons] at h
  obtain ⟨h1, h2, h3, h4, h5, h6, h7, h8, h9, h10, h11, h12, h13, -⟩ := h
  rw [Opcode.ofByte, if_neg h1, if_neg h2, if_neg h3, if_neg h4, if_neg h5, if_neg h6, if_neg h7, if_neg h8, if_neg h9,
    if_neg h10, if_neg h11, if_neg h12, if_neg h13]

section
variable {s : State} {op : Opcode}

/-- In READY a write to COMMAND is an opcode byte (R136). -/
theorem State.writeCommand_of_ready (h : s.port.state = .ready) (b : Byte) : s.writeCommand b = s.takeOpcode b := by
  rw [State.writeCommand, h]

/-- In PAYLOAD and RESPOND a write to COMMAND is dropped (R138). -/
theorem State.writeCommand_of_dropped (h : s.port.state = .payload ∨ s.port.state = .respond) (b : Byte) :
    s.writeCommand b = s.setLost := by
  obtain h | h := h <;> rw [State.writeCommand, h]

/-- In COLLECT a write to COMMAND joins the bytes collected, and the last one takes the command (R137). -/
theorem State.writeCommand_of_collecting {ps : List Byte} (hc : Collecting s op ps) (b : Byte) :
    s.writeCommand b =
      if ps.length + 1 < op.paramCount then s.collected (ps ++ [b])
      else (s.collected (ps ++ [b])).takeCommand op (ps ++ [b]) := by
  obtain ⟨-, hcollect, hopcode, rfl⟩ := hc
  rw [State.writeCommand, hcollect]
  dsimp only
  rw [State.takeParameter, hopcode]
  dsimp only
  rw [List.length_append]
  rfl

theorem State.takeOpcode_of_listed {b : Byte} (h : Opcode.ofByte b = some op) :
    s.takeOpcode b = { s with port := { s.port with state := .collect, opcode := some op, params := [] } } := by
  rw [State.takeOpcode, h]

theorem State.takeOpcode_of_not_listed {b : Byte} (h : Opcode.ofByte b = none) :
    s.takeOpcode b = s.post .badOpcode [] := by
  rw [State.takeOpcode, h]

end

/-- Settles O7: an opcode byte is read by the table of the thirteen, and a parameter byte that is not the last is kept. -/
theorem opcodeAndParameterBytesAreCollected : Obligations.OpcodeAndParameterBytesAreCollected := by
  refine ⟨fun s b hs hready => ⟨fun op n hlisted => ?_, fun hother => ?_⟩, fun s op ps b hc hmore => ?_⟩
  · obtain ⟨hread, hcount⟩ := opcodeTable_read _ hlisted
    refine ⟨hcount, (happening_of_running hs (State.writeCommand · b)).trans ?_⟩
    rw [State.writeCommand_of_ready hready, State.takeOpcode_of_listed hread]
  · refine (happening_of_running hs (State.writeCommand · b)).trans ?_
    rw [State.writeCommand_of_ready hready, State.takeOpcode_of_not_listed (Opcode.ofByte_of_not_listed hother)]
    rfl
  · refine (happening_of_running hc.1 (State.writeCommand · b)).trans ?_
    rw [State.writeCommand_of_collecting hc, if_pos hmore]
    rfl

/-- Settles O8: both accesses are dropped by setting LOST alone. -/
theorem commandWriteIsDroppedAndLost : Obligations.CommandWriteIsDroppedAndLost := by
  intro s b hs
  refine ⟨fun hdropped => ?_, fun howner => ?_⟩
  · refine (happening_of_running hs (State.writeCommand · b)).trans ?_
    rw [State.writeCommand_of_dropped hdropped]
    rfl
  · refine (happening_of_running hs (State.dataIn · b false false)).trans ?_
    rw [State.dataIn, if_neg howner]
    rfl

/-! #### The readout of RESPONSE (R139, R140, R147) -/

/-- A response byte delivered moves the position on, or ends the response with the last info byte; LOST is cleared by the
first. -/
theorem CommandPort.delivered_eq (p : CommandPort) {r : Response} (h : p.position ≤ r.info.length) :
    p.delivered r =
      if p.position = r.info.length then
        { p with state := .ready, response := none, position := 0, lost := if p.position = 0 then false else p.lost }
      else { p with position := p.position + 1, lost := if p.position = 0 then false else p.lost } := by
  have hlost : (p.lost && p.position != 0) = if p.position = 0 then false else p.lost := by
    by_cases hfirst : p.position = 0 <;> simp [hfirst]
  have hmore : p.position + 1 < r.bytes.length ↔ ¬ p.position = r.info.length := by
    rw [Response.bytes, List.length_cons]
    omega
  unfold CommandPort.delivered
  simp only [hmore, hlost, ite_not]

theorem State.readResponse_of_respond {s : State} {r : Response} (hstate : s.port.state = .respond)
    (hr : s.port.response = some r) :
    s.readResponse = (r.bytes[s.port.position]?.getD 0, { s with port := s.port.delivered r }) := by
  rw [State.readResponse, hstate, hr]

/-- Outside RESPOND a read of RESPONSE returns 0 and changes nothing. -/
theorem State.readResponse_of_not_respond {s : State} (h : s.port.state ≠ .respond) : s.readResponse = (0, s) := by
  unfold State.readResponse
  split
  · next hrespond _ => exact absurd hrespond h
  · rfl

/-- Settles O12: the codes, then a read in RESPOND and one outside it. -/
theorem responseIsReadByteByByte : Obligations.ResponseIsReadByteByByte := by
  refine ⟨rfl, fun s r b hs hstate hr hbyte => ?_, fun s hs hstate => ?_⟩
  · obtain ⟨hposition, -⟩ := List.getElem?_eq_some_iff.1 hbyte
    refine (readHappening_of_running hs State.readResponse).trans ?_
    rw [State.readResponse_of_respond hstate hr, Response.bytes, hbyte,
      s.port.delivered_eq (Nat.le_of_lt_succ hposition)]
    rfl
  · refine (readHappening_of_running hs State.readResponse).trans ?_
    rw [State.readResponse_of_not_respond hstate]

/-! #### ABORT_CMD and DISCARD_HEAD (R142, R130, R172, R165) -/

section
variable {s : State}

/-- A withdrawn INTAKE that owns the port hands it to an OUTFLOW that waits (R165, R172). -/
theorem DataPort.endIntake_eq (d : DataPort) :
    d.endIntake =
      if d.owner = .intake then
        { d with intake := none, owner := if d.outflow = none then .none else .outflow, moved := 0, dmaUsed := false,
                 halted := false }
      else { d with intake := none } := by
  unfold DataPort.endIntake DataPort.grant
  cases d.outflow <;> rfl

/-- DISCARD_HEAD withdraws OUTFLOW whether or not it was raised; one that owns the port hands it to an INTAKE that waits
(R130, R165, R172). -/
theorem DataPort.withdrawOutflow_eq (d : DataPort) :
    (if d.outflow.isSome then d.endOutflow else d) =
      if d.outflow ≠ none ∧ d.owner = .outflow then
        { d with outflow := none, owner := if d.intake = none then .none else .intake, moved := 0, dmaUsed := false,
                 halted := false }
      else { d with outflow := none } := by
  cases houtflow : d.outflow with
  | none => simp [← houtflow]
  | some r =>
    simp only [Option.isSome_some, if_true, ne_eq, reduceCtorEq, not_false_eq_true, true_and]
    unfold DataPort.endOutflow DataPort.grant
    cases d.intake <;> rfl

theorem State.abort_of_idle (h : s.port.state = .ready ∨ s.port.state = .respond) : s.abort = s := by
  obtain h | h := h <;> rw [State.abort, h]

theorem State.abort_of_collect (h : s.port.state = .collect) : s.abort = s.post .aborted [] := by
  rw [State.abort, h]

theorem State.abort_of_payload {n : SlotNo} (h : s.port.state = .payload) (hn : s.port.loading = some n) :
    s.abort = ((s.freeSlot n).post .aborted []).modData DataPort.endIntake := by
  rw [State.abort, h]
  dsimp only
  rw [State.intakeAbandoned, hn]

theorem State.discard_of_empty (h : s.queue.records = []) : s.discard = s := by rw [State.discard, h]

/-- DISCARD_HEAD with a record: the Data Port and the retirement do not look at each other. -/
theorem State.discard_of_record (h : s.queue.records ≠ []) :
    s.discard = { s.retireHead with data := if s.data.outflow.isSome then s.data.endOutflow else s.data } := by
  obtain ⟨r, rest, hr⟩ := List.exists_cons_of_ne_nil h
  have hsame : ((s.modData fun d => if d.outflow.isSome then d.endOutflow else d).queue.records) = r :: rest := hr
  rw [State.discard, hr]
  dsimp only
  rw [State.retireHead_of_cons hsame, State.retireHead_of_cons hr]
  rfl

end

/-- Settles O28: ABORT_CMD by the state of the assembler, DISCARD_HEAD by the list. -/
theorem abortAndDiscardWithdraw : Obligations.AbortAndDiscardWithdraw := by
  intro s hs
  have habort : exec .abortCmd s = .next s.abort.drive := happening_of_running hs State.abort
  have hdiscard : exec .discardHead s = .next s.discard.drive := happening_of_running hs State.discard
  refine ⟨fun hidle => ?_, fun hcollect => ?_, fun n hpayload hn => ?_, fun hempty => ?_, fun hrecord => ?_⟩
  · rw [habort, State.abort_of_idle hidle]
  · rw [habort, State.abort_of_collect hcollect]
    rfl
  · rw [habort, State.abort_of_payload hpayload hn, ← DataPort.endIntake_eq]
    rfl
  · rw [hdiscard, State.discard_of_empty hempty]
  · rw [hdiscard, State.discard_of_record hrecord, DataPort.withdrawOutflow_eq]

end Sys2Proof.Machine
end
section
namespace Sys2Proof.Machine

/-! #### The first byte out of range (R145 step 1, R146, R160) -/

/-- Checks in byte order, one for each listed index: the first one that fails names the first index out of range. -/
theorem firstBad_map {is : List Nat} {good : Nat → Bool} {i : Nat} (hsorted : is.Pairwise (· < ·)) (hi : i ∈ is)
    (hbad : good i = false) (hbefore : ∀ j < i, good j = true) : firstBad (is.map fun j => (j, good j)) = some i := by
  induction is with
  | nil => cases hi
  | cons j is ih =>
    obtain ⟨hj, hrest⟩ := List.pairwise_cons.1 hsorted
    obtain rfl | hi := List.mem_cons.1 hi
    · simp [firstBad, hbad]
    · simp [firstBad, hbefore j (hj i hi), ih hrest hi]

/-- The indexes of the parameter bytes of a command that have a range (the table of section 8.3). -/
def Opcode.rangedBytes : Opcode → List Nat
  | .submit => [1, 2, 3, 5, 6, 7, 8]
  | .cancel | .purge | .lineOn | .lineReset | .pollHalt => [1]
  | .lineSet => [1, 2, 4, 5, 6, 7, 8, 9]
  | .lineOff | .pollRun => [1, 2]
  | .pollSet => [1, 2, 3, 5, 6, 7, 8]
  | .stationSet | .query => [1, 2, 3]
  | .queueSet => [1, 2, 3, 4]

theorem Opcode.rangedBytes_sorted (op : Opcode) : op.rangedBytes.Pairwise (· < ·) := by cases op <;> decide

/-- A byte out of range has a range. -/
theorem mem_rangedBytes {op : Opcode} {qs : List Byte} {i : Nat} (h : InRange op qs i = false) : i ∈ op.rangedBytes := by
  unfold InRange at h
  dsimp only at h
  split at h
  case h_42 => cases h
  all_goals decide

/-- The checks of a command, one for each byte with a range. -/
def rangeChecks (op : Opcode) (qs : List Byte) : List (Nat × Bool) := op.rangedBytes.map fun i => (i, InRange op qs i)

theorem within_zero (b : Byte) (hi : Nat) : within b 0 hi = decide (b.toNat ≤ hi) := by simp [within]

theorem within_top (b : Byte) (lo : Nat) : within b lo 255 = decide (lo ≤ b.toNat) := by simp [within, toNat_le_top]

theorem within_eq (b : Byte) (lo hi : Nat) : within b lo hi = decide (lo ≤ b.toNat ∧ b.toNat ≤ hi) := by simp [within]

theorem wordOf_toNat_low (low high : Byte) : (wordOf low high).toNat = low.toNat + 256 * high.toNat := by
  rw [wordOf_toNat]
  omega

theorem byte_le_five {b : Byte} (h : b.toNat ≤ 5) : b = 0 ∨ b = 1 ∨ b = 2 ∨ b = 3 ∨ b = 4 ∨ b = 5 := by bv_omega

/-- QUERY checks its bytes against the table of R160: an unknown kind fails at byte 1, and each kind checks the bytes that it
uses. -/
theorem parseQuery_eq_checked (kind a b : Byte) :
    ∃ r, parseQuery kind a b = checked (rangeChecks .query [kind, a, b]) r := by
  by_cases hknown : kind.toNat ≤ 5
  · obtain rfl | rfl | rfl | rfl | rfl | rfl := byte_le_five hknown
    · exact ⟨.queryPool, rfl⟩
    · refine ⟨.querySlot (slotOf a), ?_⟩
      change checked [(2, within a 0 15)] _ = _
      rw [within_zero]
      rfl
    · refine ⟨.queryLine (lineOf a), ?_⟩
      change checked [(2, within a 0 3)] _ = _
      rw [within_zero]
      rfl
    · refine ⟨.queryStation (lineOf a) (stationOf b), ?_⟩
      change checked [(2, within a 0 3), (3, within b 1 31)] _ = _
      rw [within_zero, within_eq]
      rfl
    · refine ⟨.queryChanges (lineOf a), ?_⟩
      change checked [(2, within a 0 3)] _ = _
      rw [within_zero]
      rfl
    · refine ⟨.queryEntry (lineOf a) (entryOf b), ?_⟩
      change checked [(2, within a 0 3), (3, within b 0 15)] _ = _
      rw [within_zero, within_zero]
      rfl
  · have hbad : InRange .query [kind, a, b] 1 = false := decide_eq_false hknown
    have hne {k : Byte} (hk : k.toNat ≤ 5) : kind ≠ k := fun h => hknown (h ▸ hk)
    refine ⟨.queryPool, ?_⟩
    rw [checked, rangeChecks, Opcode.rangedBytes, List.map_cons, hbad, parseQuery, if_neg (hne (by decide)),
      if_neg (hne (by decide)), if_neg (hne (by decide)), if_neg (hne (by decide)), if_neg (hne (by decide)),
      if_neg (hne (by decide))]
    rfl

/-- Every command checks its bytes against the table of section 8.3. -/
theorem parseRequest_eq_checked {op : Opcode} {qs : List Byte} (hlength : qs.length = op.paramCount) :
    ∃ r, parseRequest op qs = checked (rangeChecks op qs) r := by
  cases op with
  | query =>
    match qs, hlength with
    | [_, _, _], _ => exact parseQuery_eq_checked _ _ _
  | cancel | purge | lineOn | lineReset | pollHalt =>
    match qs, hlength with
    | [_], _ =>
      dsimp only [parseRequest]
      rw [within_zero]
      exact ⟨_, rfl⟩
  | lineOff =>
    match qs, hlength with
    | [_, _], _ =>
      dsimp only [parseRequest]
      rw [within_zero, within_zero]
      exact ⟨_, rfl⟩
  | pollRun =>
    match qs, hlength with
    | [_, _, _], _ =>
      dsimp only [parseRequest]
      rw [within_zero, wordOf_toNat_low]
      exact ⟨_, rfl⟩
  | stationSet =>
    match qs, hlength with
    | [_, _, _], _ =>
      dsimp only [parseRequest]
      rw [within_zero, within_zero, within_eq]
      exact ⟨_, rfl⟩
  | queueSet =>
    match qs, hlength with
    | [_, _, _, _], _ =>
      dsimp only [parseRequest]
      simp only [within_zero, within_eq _ 1, ← Bool.decide_and]
      exact ⟨_, rfl⟩
  | submit =>
    match qs, hlength with
    | [_, _, _, _, _, _, _, _], _ =>
      dsimp only [parseRequest]
      simp only [within_zero]
      exact ⟨_, rfl⟩
  | pollSet =>
    match qs, hlength with
    | [_, _, _, _, _, _, _, _], _ =>
      dsimp only [parseRequest]
      simp only [within_zero, within_eq _ 1]
      exact ⟨_, rfl⟩
  | lineSet =>
    match qs, hlength with
    | [_, _, _, _, _, _, _, _, _], _ =>
      dsimp only [parseRequest]
      simp only [within_zero, within_top, within_eq _ 1 15, wordOf_toNat_low]
      exact ⟨_, rfl⟩

/-- A command whose first byte out of range is byte i is read as that bad byte. -/
theorem parseRequest_of_bad {op : Opcode} {qs : List Byte} {i : Nat} (hlength : qs.length = op.paramCount)
    (hbad : InRange op qs i = false) (hbefore : ∀ j < i, InRange op qs j = true) : parseRequest op qs = .error i := by
  obtain ⟨r, hparsed⟩ := parseRequest_eq_checked hlength
  have hfirst : firstBad (rangeChecks op qs) = some i :=
    firstBad_map op.rangedBytes_sorted (mem_rangedBytes hbad) hbad hbefore
  rw [hparsed, checked, hfirst]

/-- Settles O9: the checks stop at the first bad byte, and the refusal writes the port alone. -/
theorem firstBadByteIsRefused : Obligations.FirstBadByteIsRefused := by
  intro s op ps last i hc hlength hbad hbefore
  have hcount : (ps ++ [last]).length = op.paramCount := by rw [List.length_append]; exact hlength
  have hparsed : parseRequest op (ps ++ [last]) = .error i.val :=
    parseRequest_of_bad hcount hbad fun j hj => hbefore ⟨j, hj.trans i.isLt⟩ hj
  rw [exec_commandRow, happening_of_running hc.1 fun t => t.writeCommand last, State.writeCommand_of_collecting hc,
    if_neg hlength.ge.not_gt, State.takeCommand, hparsed]
  rfl

end Sys2Proof.Machine
end
section
namespace Sys2Proof.Machine

/-! #### Commands refused or answered (R145, R147) -/

/-- How a command taken in a state can end: refused with nothing changed but the port, or with any response that was not
there before ACCEPTED or DONE. -/
def RefusedOrAnswered (s t : State) : Prop :=
  (∃ code info, t = s.post code info) ∨
    ∀ r, t.port.response = some r → s.port.response = some r ∨ r.code = .accepted ∨ r.code = .done

section
variable {s : State}

theorem RefusedOrAnswered.refused (code : ResponseCode) (info : List Byte) : RefusedOrAnswered s (s.post code info) :=
  .inl ⟨code, info, rfl⟩

theorem RefusedOrAnswered.answered (t : State) {code : ResponseCode} (hcode : code = .accepted ∨ code = .done)
    (info : List Byte) : RefusedOrAnswered s (t.post code info) := by
  refine .inr fun r hr => .inr ?_
  obtain rfl : (⟨code, info⟩ : Response) = r := Option.some.inj hr
  exact hcode

theorem RefusedOrAnswered.done (t : State) (info : List Byte) : RefusedOrAnswered s (t.post .done info) :=
  .answered t (.inr rfl) info

/-- A command that only moves the port on, without a response. -/
theorem RefusedOrAnswered.unanswered {t : State} (h : t.port.response = s.port.response) : RefusedOrAnswered s t :=
  .inr fun _ hr => .inl (h ▸ hr)

theorem RefusedOrAnswered.ifPresent (l : Line) {t : State} (h : RefusedOrAnswered s t) :
    RefusedOrAnswered s (s.ifPresent l t) := by
  unfold State.ifPresent
  split
  · exact .refused _ _
  · exact h

theorem RefusedOrAnswered.submitGranted (p : SubmitParams) (n : SlotNo) : RefusedOrAnswered s (s.submitGranted p n) := by
  unfold State.submitGranted
  dsimp only
  split
  · exact .answered _ (.inl rfl) _
  · exact .unanswered rfl

theorem RefusedOrAnswered.takeSubmit (p : SubmitParams) : RefusedOrAnswered s (s.takeSubmit p) := by
  refine .ifPresent p.line ?_
  split
  · exact .refused _ _
  · split
    · exact .refused _ _
    · split
      · exact .refused _ _
      · exact .submitGranted p _

theorem RefusedOrAnswered.takeCancel (n : SlotNo) : RefusedOrAnswered s (s.takeCancel n) := by
  unfold State.takeCancel
  dsimp only
  split
  · exact .done _ _
  · exact .done _ _
  · exact .refused _ _

/-- A command that needs its line in one mode is answered in that mode and refused in any other. -/
theorem RefusedOrAnswered.ite {c : Prop} [Decidable c] (t : State) (code : ResponseCode) :
    RefusedOrAnswered s (if c then t.postDone else s.post code []) := by
  split
  · exact .done _ _
  · exact .refused _ _

theorem RefusedOrAnswered.takeLineOff (l : Line) (k : DrainKind) : RefusedOrAnswered s (s.takeLineOff l k) := by
  unfold State.takeLineOff
  split
  · exact .refused _ _
  · exact .refused _ _
  · exact .done _ _
  · exact .ite _ _

theorem RefusedOrAnswered.takePollSet (l : Line) (e : EntryNo) (d : PollDef) :
    RefusedOrAnswered s (s.takePollSet l e d) := by
  refine .ifPresent l ?_
  split
  · exact .refused _ _
  · exact .done _ _

theorem refusedOrAnswered_takeRequest (r : Request) : RefusedOrAnswered s (s.takeRequest r) := by
  cases r with
  | submit p => exact .takeSubmit p
  | cancel n => exact .takeCancel n
  | lineSet l | lineOn l | pollRun l => exact .ifPresent l (.ite _ _)
  | lineOff l k => exact .takeLineOff l k
  | pollSet l e d => exact .takePollSet l e d
  | purge l | lineReset l | pollHalt l | stationSet l => exact .ifPresent l (.done _ _)
  | queryPool | querySlot | queryLine | queryStation | queryChanges | queryEntry | queueSet => exact .done _ _

theorem refusedOrAnswered_takeCommand (op : Opcode) (qs : List Byte) : RefusedOrAnswered s (s.takeCommand op qs) := by
  unfold State.takeCommand
  split
  · exact .refused _ _
  · exact refusedOrAnswered_takeRequest _

end

/-- Settles O11: a command that holds a new response other than ACCEPTED and DONE was refused where the checks stand. -/
theorem refusedCommandChangesNothing : Obligations.RefusedCommandChangesNothing := by
  intro s t op ps last r hc hnone hexec hr haccepted hdone
  rw [exec_commandRow, happening_of_running hc.1 fun t => t.writeCommand last, State.writeCommand_of_collecting hc] at hexec
  obtain rfl := Host.Outcome.next.inj hexec
  rw [State.drive_port] at hr
  split at hr
  · exact absurd (hnone.symm.trans hr) nofun
  · next hlast =>
    rw [if_neg hlast]
    obtain ⟨code, info, hpost⟩ | hanswered :=
      refusedOrAnswered_takeCommand (s := s.collected (ps ++ [last])) op (ps ++ [last])
    · rw [hpost] at hr ⊢
      obtain rfl : (⟨code, info⟩ : Response) = r := Option.some.inj hr
      exact ⟨rfl, rfl⟩
    · obtain hold | hcode | hcode := hanswered r hr
      · exact absurd (hnone.symm.trans hold) nofun
      · exact absurd hcode haccepted
      · exact absurd hcode hdone

end Sys2Proof.Machine
end
section
namespace Sys2Proof.Machine

/-! #### What leaves the waiting commands as they are -/

section
variable (s : State)

@[simp] theorem State.putChainByte_pending (chain : List BlockNo) (i : Nat) (b : Byte) :
    (s.putChainByte chain i b).pending = s.pending := by rw [State.putChainByte_eq]

@[simp] theorem State.updateStation_pending (l : Line) (a : StationAddr) (f : Station → Station) :
    (s.updateStation l a f).pending = s.pending := by rw [State.updateStation_frame]

@[simp] theorem State.complete_pending (n : SlotNo) (oc : TransactionOutcome) : (s.complete n oc).pending = s.pending := by
  rw [State.complete_frame]

@[simp] theorem State.completeQueue_pending (l : Line) (oc : TransactionOutcome) :
    (s.completeQueue l oc).pending = s.pending := by
  rw [State.completeQueue, State.completeAll_frame]
  rfl

@[simp] theorem State.retireHead_pending : s.retireHead.pending = s.pending := by rw [State.retireHead_frame]

theorem State.abort_pending : s.abort.pending = s.pending := by rw [State.abort_frame]

theorem State.discard_pending : s.discard.pending = s.pending := by rw [State.discard_frame]

/-! ##### The engine (chapter 4) -/

@[simp] theorem State.settle_pending (l : Line) : (s.settle l).pending = s.pending := rfl

@[simp] theorem State.completeActive_pending (l : Line) (n : SlotNo) (oc : TransactionOutcome) :
    (s.completeActive l n oc).pending = s.pending := State.complete_pending _ n oc

@[simp] theorem State.finishActive_pending (l : Line) (n : SlotNo) (oc : TransactionOutcome) :
    (s.finishActive l n oc).pending = s.pending := s.completeActive_pending l n oc

/-- A failed attempt rejoins a queue or completes. -/
@[simp] theorem State.retry_pending (n : SlotNo) (f : Failure) : (s.retry n f).pending = s.pending := by
  unfold State.retry
  dsimp only
  split
  · split <;> rfl
  · exact State.complete_pending _ n _

@[simp] theorem State.actOnVerdict_pending (l : Line) (n : SlotNo) (v : Verdict) :
    (s.actOnVerdict l n v).pending = s.pending := by
  unfold State.actOnVerdict
  cases v <;> simp

@[simp] theorem State.verdict_pending (l : Line) (v : Verdict) : (s.verdict l v).pending = s.pending := by
  unfold State.verdict
  dsimp only
  split
  · rfl
  · split
    · simp
    · split <;> simp

theorem State.takeHead_pending (l : Line) : (s.takeHead l).pending = s.pending := by
  unfold State.takeHead
  dsimp only
  repeat' split
  all_goals rfl

theorem State.leadExpired_pending (l : Line) : (s.leadExpired l).pending = s.pending := by
  unfold State.leadExpired
  dsimp only
  repeat' split
  all_goals rfl

theorem State.guardSpace_pending (l : Line) : (s.guardSpace l).pending = s.pending := by
  unfold State.guardSpace
  dsimp only
  repeat' split
  all_goals rfl

@[simp] theorem State.holdEnded_pending (l : Line) : (s.holdEnded l).pending = s.pending := by
  unfold State.holdEnded
  split
  · rfl
  · dsimp only
    split
    · simp
    · split <;> simp

theorem State.holdExpired_pending (l : Line) : (s.holdExpired l).pending = s.pending := by
  unfold State.holdExpired
  split
  · exact s.holdEnded_pending l
  · rfl

/-- The end of a frame writes the link, the slot and the engine; a hold of 0 ends with it. -/
@[simp] theorem State.frameSent_pending (l : Line) (n : SlotNo) (p : Phase) : (s.frameSent l n p).pending = s.pending := by
  unfold State.frameSent
  dsimp only
  split
  · rw [State.holdEnded_pending]
    split <;> rfl
  · split <;> rfl

theorem State.characterEnded_pending (l : Line) (readBack : BitVec 11) :
    (s.characterEnded l readBack).pending = s.pending := by
  unfold State.characterEnded
  dsimp only
  split
  · split
    · split
      · rfl
      · exact State.frameSent_pending _ l _ _
    · exact State.verdict_pending _ l _
  · rfl

theorem State.replyExpired_pending (l : Line) : (s.replyExpired l).pending = s.pending := by
  unfold State.replyExpired
  split
  · exact s.verdict_pending l _
  · rfl

theorem State.startBit_pending (l : Line) : (s.startBit l).pending = s.pending := by
  unfold State.startBit
  dsimp only
  repeat' split
  all_goals rfl

@[simp] theorem State.tookCharacter_pending (l : Line) (k : Link) : (s.tookCharacter l k).pending = s.pending := rfl

@[simp] theorem State.takeCharacter_pending (l : Line) (x : Slot) (p : Phase) (b : Byte) :
    (s.takeCharacter l x p b).pending = s.pending := by
  unfold State.takeCharacter
  dsimp only
  repeat' split
  all_goals simp

theorem State.characterDelivered_pending (l : Line) (samples : BitVec 10) :
    (s.characterDelivered l samples).pending = s.pending := by
  unfold State.characterDelivered
  dsimp only
  split
  · split
    · split
      · exact State.verdict_pending _ l _
      · exact State.takeCharacter_pending _ l _ _ _
    · rfl
  · rfl

theorem State.gapExpired_pending (l : Line) : (s.gapExpired l).pending = s.pending := by
  unfold State.gapExpired
  dsimp only
  split
  · exact State.verdict_pending _ l _
  · rfl

theorem State.settled_pending (l : Line) : (s.settled l).pending = s.pending := by
  unfold State.settled
  dsimp only
  repeat' split
  all_goals rfl

theorem State.stuckExpired_pending (l : Line) : (s.stuckExpired l).pending = s.pending := by
  unfold State.stuckExpired
  dsimp only
  repeat' split
  all_goals rfl

theorem State.reArm_pending (l : Line) : (s.reArm l).pending = s.pending := by
  unfold State.reArm
  split <;> rfl

@[simp] theorem State.engineCancel_pending (l : Line) (n : SlotNo) (oc : TransactionOutcome) :
    (s.engineCancel l n oc).pending = s.pending := by
  unfold State.engineCancel
  split <;> simp

@[simp] theorem State.cancelActive_pending (l : Line) (oc : PendingOutcome) : (s.cancelActive l oc).pending = s.pending := by
  unfold State.cancelActive
  split
  · rfl
  · split
    · rfl
    · exact State.engineCancel_pending _ l _ _

/-! ##### The Data Port and the readout (chapters 7 and 9) -/

theorem State.intakeComplete_pending : s.intakeComplete.pending = s.pending := by
  unfold State.intakeComplete
  split <;> rfl

theorem State.intakeAbandoned_pending (code : ResponseCode) : (s.intakeAbandoned code).pending = s.pending := by
  unfold State.intakeAbandoned
  split <;> rfl

theorem State.moveIn_pending (b : Byte) (dma tc : Bool) : (s.moveIn b dma tc).pending = s.pending := by
  have htaken : ((s.putChainByte s.loadingChain s.data.moved b).modData fun d => d.movedByte dma).pending = s.pending :=
    s.putChainByte_pending _ _ _
  unfold State.moveIn
  dsimp only
  split
  · split
    · exact (State.intakeComplete_pending _).trans htaken
    · exact (State.intakeAbandoned_pending _ _).trans htaken
  · split
    · refine (State.intakeComplete_pending _).trans ?_
      split <;> exact htaken
    · exact htaken

theorem State.dataIn_pending (b : Byte) (dma tc : Bool) : (s.dataIn b dma tc).pending = s.pending := by
  unfold State.dataIn
  split
  · exact s.moveIn_pending b dma tc
  · rfl

theorem State.moveOut_pending (dma tc : Bool) : (s.moveOut dma tc).pending = s.pending := by
  unfold State.moveOut
  dsimp only
  split
  · split
    · exact State.retireHead_pending _
    · rfl
  · split
    · refine (State.retireHead_pending _).trans ?_
      split <;> rfl
    · rfl

theorem State.dataOut_pending (dma tc : Bool) : (s.dataOut dma tc).2.pending = s.pending := by
  unfold State.dataOut
  split
  · exact s.moveOut_pending dma tc
  · rfl

theorem State.readResult_pending : s.readResult.2.pending = s.pending := by
  unfold State.readResult State.headerEnd
  dsimp only
  repeat' split
  all_goals simp

theorem State.readResponse_pending : s.readResponse.2.pending = s.pending := by
  unfold State.readResponse
  split <;> rfl

theorem State.readCause_pending : s.readCause.2.pending = s.pending := by
  unfold State.readCause
  split <;> rfl

/-! ##### The Poll Scheduler (chapter 6) -/

@[simp] theorem State.startCycle_pending (l : Line) : (s.startCycle l).pending = s.pending := by
  unfold State.startCycle
  dsimp only
  repeat' split
  all_goals rfl

theorem State.cycleDue_pending (l : Line) : (s.cycleDue l).pending = s.pending := by
  unfold State.cycleDue
  split
  · exact s.startCycle_pending l
  · rfl

theorem State.createPoll_pending (l : Line) (e : EntryNo) (d : PollDef) (n : SlotNo) :
    (s.createPoll l e d n).pending = s.pending := by rw [State.createPoll_eq]

theorem State.claim_pending (l : Line) : (s.claim l).pending = s.pending := by
  unfold State.claim
  split
  · dsimp only
    split
    · rfl
    · split
      · split
        · exact State.createPoll_pending _ l _ _ _
        · rfl
      · rfl
  · rfl

/-! ##### The commands (sections 8.2 and 8.3) -/

theorem State.ifPresent_pending (l : Line) {t : State} (ht : t.pending = s.pending) :
    (s.ifPresent l t).pending = s.pending := by
  unfold State.ifPresent
  split
  · rfl
  · exact ht

theorem State.takeSubmit_pending (p : SubmitParams) : (s.takeSubmit p).pending = s.pending := by
  refine s.ifPresent_pending p.line ?_
  unfold State.submitGranted
  dsimp only
  repeat' split
  all_goals rfl

theorem State.takeCancel_pending (n : SlotNo) : (s.takeCancel n).pending = s.pending := by
  unfold State.takeCancel
  dsimp only
  split
  · exact State.complete_pending _ n _
  · change State.pending (ite _ _ _) = _
    split
    · exact s.cancelActive_pending _ _
    · rfl
  · rfl

theorem State.configure_pending (l : Line) (c : LineConfig) : (s.configure l c).pending = s.pending := by
  unfold State.configure
  dsimp only
  repeat' split
  all_goals rfl

@[simp] theorem State.abortLine_pending (l : Line) : (s.abortLine l).pending = s.pending := by simp [State.abortLine]

theorem State.turnOff_pending (l : Line) (k : DrainKind) : (s.turnOff l k).pending = s.pending := by
  unfold State.turnOff
  dsimp only
  split <;> simp

theorem State.takeLineOff_pending (l : Line) (k : DrainKind) : (s.takeLineOff l k).pending = s.pending := by
  unfold State.takeLineOff
  split
  · rfl
  · rfl
  · exact s.turnOff_pending l k
  · split
    · exact s.abortLine_pending l
    · rfl

@[simp] theorem State.resetActive_pending (l : Line) : (s.resetActive l).pending = s.pending := by
  unfold State.resetActive
  split
  · rfl
  · exact s.completeActive_pending l _ _

theorem State.resetLine_pending (l : Line) : (s.resetLine l).pending = s.pending := by simp [State.resetLine]

/-- A command that acts on its line in one mode and is refused in any other. -/
theorem State.ite_postDone_pending {c : Prop} [Decidable c] {t : State} (ht : t.pending = s.pending) (code : ResponseCode) :
    (if c then t.postDone else s.post code []).pending = s.pending := by
  split
  · exact ht
  · rfl

theorem State.takeRequest_pending (r : Request) : (s.takeRequest r).pending = s.pending := by
  cases r with
  | submit p => exact s.takeSubmit_pending p
  | cancel n => exact s.takeCancel_pending n
  | purge l => exact s.ifPresent_pending l (s.completeQueue_pending l _)
  | lineSet l c => exact s.ifPresent_pending l (s.ite_postDone_pending (s.configure_pending l c) _)
  | lineOn l =>
    refine s.ifPresent_pending l (s.ite_postDone_pending ?_ _)
    rfl
  | lineOff l k => exact s.takeLineOff_pending l k
  | lineReset l => exact s.ifPresent_pending l (s.resetLine_pending l)
  | pollSet l e d =>
    refine s.ifPresent_pending l ?_
    split <;> rfl
  | pollRun l period =>
    refine s.ifPresent_pending l (s.ite_postDone_pending ?_ _)
    exact State.startCycle_pending _ l
  | pollHalt l => exact s.ifPresent_pending l rfl
  | stationSet l a act => exact s.ifPresent_pending l (s.updateStation_pending l a _)
  | queryPool | querySlot | queryLine | queryStation | queryChanges | queryEntry | queueSet => rfl

theorem State.writeCommand_pending (b : Byte) : (s.writeCommand b).pending = s.pending := by
  unfold State.writeCommand
  split
  · unfold State.takeOpcode
    split <;> rfl
  · unfold State.takeParameter
    split
    · rfl
    · dsimp only
      split
      · rfl
      · unfold State.takeCommand
        split
        · rfl
        · exact State.takeRequest_pending _ _
  · rfl
  · rfl

/-! ##### CONTROL and the locations (R182, R184) -/

theorem State.writeControl_pending (b : Byte) : (s.writeControl b).pending = s.pending := by
  have hreset : (if b.getLsbD 0 then s.softReset else s).pending = s.pending := by split <;> rfl
  have habort (t : State) : (if b.getLsbD 1 then t.abort else t).pending = t.pending := by
    split
    · exact t.abort_pending
    · rfl
  have hdiscard (t : State) : (if b.getLsbD 2 then t.discard else t).pending = t.pending := by
    split
    · exact t.discard_pending
    · rfl
  exact (hdiscard _).trans ((habort _).trans hreset)

theorem State.writeAt_pending (offset : Fin 8) (b : Byte) : (s.writeAt offset b).pending = s.pending := by
  unfold State.writeAt
  split
  · rfl
  · split
    · exact s.writeCommand_pending b
    · exact s.writeControl_pending b
    · exact s.dataIn_pending b _ _
    · rfl
    · rfl

end

/-! #### Every command answers (R138, section 5.5) -/

/-- The command answers a next state and leaves the waiting commands alone. -/
abbrev Completes (c : Instr) (s : State) : Prop := ∃ t, exec c s = .next t ∧ t.pending = s.pending

section
variable {c : Instr} {s : State}

theorem Completes.of_happening {f : State → State} (hc : exec c s = happening f s) (hf : (f s).pending = s.pending) :
    Completes c s := by
  cases hs : s.inReset with
  | true => exact ⟨s, hc.trans (happening_of_inReset hs f), rfl⟩
  | false => exact ⟨_, hc.trans (happening_of_running hs f), hf⟩

theorem Completes.of_readHappening {f : State → Byte × State} (hc : exec c s = readHappening f s)
    (hf : (f s).2.pending = s.pending) : Completes c s := by
  cases hs : s.inReset with
  | true => exact ⟨_, hc.trans (readHappening_of_inReset hs f), rfl⟩
  | false => exact ⟨_, hc.trans (readHappening_of_running hs f), hf⟩

end

/-- An ignored write changes nothing, and a write at any other offset is that access (R182). -/
theorem ignoredWrite_completes (offset : Fin 8) (b : Byte) (s : State) : Completes (.ignoredWrite offset b) s := by
  by_cases hignored : ignoredOffset offset
  · exact ⟨s, if_pos hignored, rfl⟩
  · exact .of_happening (f := (State.writeAt · offset b)) (if_neg hignored) (s.writeAt_pending offset b)

/-- Settles O2: every command is a happening whose effect leaves the waiting commands alone. -/
theorem everyCommandCompletes : Obligations.EveryCommandCompletes := by
  intro c s
  cases c with
  | hardwareReset | resetInputActive => exact ⟨_, rfl, rfl⟩
  | softReset => exact Completes.of_happening (f := State.softReset) rfl rfl
  | busEnable b => exact Completes.of_happening (f := (State.writeBusEnable · b)) rfl rfl
  | resultDma b => exact Completes.of_happening (f := (State.writeResultDma · b)) rfl rfl
  | eventMaskWrite b => exact Completes.of_happening (f := (State.writeMask · b)) rfl rfl
  | tick => exact Completes.of_happening (f := State.advanceTick) rfl rfl
  | abortCmd => exact Completes.of_happening rfl s.abort_pending
  | discardHead => exact Completes.of_happening rfl s.discard_pending
  | responseRead => exact Completes.of_readHappening rfl s.readResponse_pending
  | resultRead => exact Completes.of_readHappening rfl s.readResult_pending
  | causeRead => exact Completes.of_readHappening rfl s.readCause_pending
  | tickLowRead => exact Completes.of_readHappening (f := State.readTickLow) rfl rfl
  | dataRead => exact Completes.of_readHappening (f := (State.dataOut · false false)) rfl (s.dataOut_pending _ _)
  | dmaReadAck tc => exact Completes.of_readHappening (f := (State.dataOut · true tc)) rfl (s.dataOut_pending _ tc)
  | dataWrite b => exact Completes.of_happening (f := (State.dataIn · b false false)) rfl (s.dataIn_pending b _ _)
  | dmaWriteAck b tc => exact Completes.of_happening (f := (State.dataIn · b true tc)) rfl (s.dataIn_pending b _ tc)
  | ignoredWrite offset b => exact ignoredWrite_completes offset b s
  | cycleStart l => exact Completes.of_happening (f := (State.cycleDue · l)) rfl (s.cycleDue_pending l)
  | pollClaim l => exact Completes.of_happening (f := (State.claim · l)) rfl (s.claim_pending l)
  | take l => exact Completes.of_happening (f := (State.takeHead · l)) rfl (s.takeHead_pending l)
  | leadTimerExpiry l => exact Completes.of_happening (f := (State.leadExpired · l)) rfl (s.leadExpired_pending l)
  | guardSpaceHeard l => exact Completes.of_happening (f := (State.guardSpace · l)) rfl (s.guardSpace_pending l)
  | characterSent l readBack =>
    exact Completes.of_happening (f := (State.characterEnded · l readBack)) rfl
      (s.characterEnded_pending l readBack)
  | holdTimerExpiry l => exact Completes.of_happening (f := (State.holdExpired · l)) rfl (s.holdExpired_pending l)
  | replyTimeout l => exact Completes.of_happening (f := (State.replyExpired · l)) rfl (s.replyExpired_pending l)
  | startBitTaken l => exact Completes.of_happening (f := (State.startBit · l)) rfl (s.startBit_pending l)
  | characterReceived l samples =>
    exact Completes.of_happening (f := (State.characterDelivered · l samples)) rfl
      (s.characterDelivered_pending l samples)
  | gapLimitExpiry l => exact Completes.of_happening (f := (State.gapExpired · l)) rfl (s.gapExpired_pending l)
  | settleQuiet l => exact Completes.of_happening (f := (State.settled · l)) rfl (s.settled_pending l)
  | stuckTimerExpiry l => exact Completes.of_happening (f := (State.stuckExpired · l)) rfl (s.stuckExpired_pending l)
  | receiverReArm l => exact Completes.of_happening (f := (State.reArm · l)) rfl (s.reArm_pending l)
  | opcodeByte | parameterByte | commandWriteDropped | submit | cancel | purge | lineSet | lineOn | lineOff | lineReset
  | pollSet | pollRun | pollHalt | stationSet | queryPool | querySlot | queryLine | queryStation | queryChanges
  | queryEntry | queueSet => exact Completes.of_happening (f := (State.writeCommand · _)) rfl (s.writeCommand_pending _)

end Sys2Proof.Machine
end
section
namespace Sys2Proof.Machine

/-! #### The owning blocks do not look at the Command Port -/

/-- The state with another Command Port. -/
def State.withPort (s : State) (p : CommandPort) : State := { s with port := p }

section
variable (s : State) (p : CommandPort)

theorem State.updateStation_withPort (l : Line) (a : StationAddr) (f : Station → Station) :
    (s.withPort p).updateStation l a f = (s.updateStation l a f).withPort p := by
  unfold State.updateStation
  split <;> rfl

theorem State.desync_withPort (n : SlotNo) (o : TransactionOutcome) :
    (s.withPort p).desync n o = (s.desync n o).withPort p := by
  have hslot : (s.withPort p).slot n = s.slot n := rfl
  unfold State.desync
  rw [hslot]
  split
  · exact State.updateStation_withPort ..
  · rfl

theorem State.handOn_withPort (n : SlotNo) (o : TransactionOutcome) :
    (s.withPort p).handOn n o = (s.handOn n o).withPort p := by
  have hslot : (s.withPort p).slot n = s.slot n := rfl
  unfold State.handOn
  rw [hslot]
  split
  · rfl
  · unfold State.pollHandOn
    dsimp only
    split
    · rw [apply_ite (State.withPort · p)]
      rfl
    · rfl

theorem State.complete_withPort (n : SlotNo) (o : TransactionOutcome) :
    (s.withPort p).complete n o = (s.complete n o).withPort p :=
  calc
    (s.withPort p).complete n o =
        (((s.modSlot n fun x => { x with outcome := some o, doneTime := s.tick }).withPort p).desync n o).handOn n o := rfl
    _ = (s.complete n o).withPort p := by
      rw [State.desync_withPort, State.handOn_withPort]
      rfl

theorem State.completeAll_withPort (ns : List SlotNo) (o : TransactionOutcome) :
    (s.withPort p).completeAll ns o = (s.completeAll ns o).withPort p := by
  induction ns generalizing s with
  | nil => rfl
  | cons n ns ih =>
    calc
      (s.withPort p).completeAll (n :: ns) o = ((s.withPort p).complete n o).completeAll ns o := rfl
      _ = ((s.complete n o).completeAll ns o).withPort p := by rw [State.complete_withPort, ih]

theorem State.completeQueue_withPort (l : Line) (o : TransactionOutcome) :
    (s.withPort p).completeQueue l o = (s.completeQueue l o).withPort p :=
  State.completeAll_withPort (s.modEngine l fun e => { e with queue := [] }) p _ o

theorem State.completeActive_withPort (l : Line) (n : SlotNo) (o : TransactionOutcome) :
    (s.withPort p).completeActive l n o = (s.completeActive l n o).withPort p :=
  State.complete_withPort (s.modEngine l Engine.release) p n o

theorem State.finishActive_withPort (l : Line) (n : SlotNo) (o : TransactionOutcome) :
    (s.withPort p).finishActive l n o = (s.finishActive l n o).withPort p := by
  rw [State.finishActive, State.completeActive_withPort]
  rfl

theorem State.engineCancel_withPort (l : Line) (n : SlotNo) (o : TransactionOutcome) :
    (s.withPort p).engineCancel l n o = (s.engineCancel l n o).withPort p := by
  have hengine : (s.withPort p).engine l = s.engine l := rfl
  unfold State.engineCancel
  rw [hengine]
  split
  · exact State.finishActive_withPort (s.modEngine l fun e => { e with leadTimer := none }) p l n o
  · rw [State.completeActive_withPort]
    rfl
  · exact State.finishActive_withPort (s.modEngine l Engine.stopWaiting) p l n o
  · exact State.finishActive_withPort (s.modEngine l Engine.stopWaiting) p l n o
  · rfl

theorem State.cancelActive_withPort (l : Line) (o : PendingOutcome) :
    (s.withPort p).cancelActive l o = (s.cancelActive l o).withPort p := by
  have hengine : (s.withPort p).engine l = s.engine l := rfl
  unfold State.cancelActive
  rw [hengine]
  split
  · rfl
  · next n _ =>
    have hslot : (s.withPort p).slot n = s.slot n := rfl
    rw [hslot]
    split
    · rfl
    · exact State.engineCancel_withPort (s.modSlot n fun x => { x with cancelPending := some o }) p l n _

theorem State.abortLine_withPort (l : Line) : (s.withPort p).abortLine l = (s.abortLine l).withPort p :=
  calc
    (s.withPort p).abortLine l =
        (((s.modEngine l fun e => e.drain .abort).withPort p).completeQueue l .lineDown).cancelActive l .lineDown := rfl
    _ = (s.abortLine l).withPort p := by
      rw [State.completeQueue_withPort, State.cancelActive_withPort]
      rfl

theorem State.turnOff_withPort (l : Line) (k : DrainKind) :
    (s.withPort p).turnOff l k = (s.turnOff l k).withPort p := by
  have hengine : (s.withPort p).engine l = s.engine l := rfl
  unfold State.turnOff
  rw [hengine]
  dsimp only
  split
  · rfl
  · exact State.completeQueue_withPort ((s.modSched l Scheduler.halt).modEngine l Engine.toOff) p l _
  · rfl
  · exact State.abortLine_withPort (s.modSched l Scheduler.halt) p l

theorem State.resetActive_withPort (l : Line) : (s.withPort p).resetActive l = (s.resetActive l).withPort p := by
  have hengine : (s.withPort p).engine l = s.engine l := rfl
  unfold State.resetActive
  rw [hengine]
  split
  · rfl
  · exact State.completeActive_withPort s p l _ _

theorem State.resetLine_withPort (l : Line) : (s.withPort p).resetLine l = (s.resetLine l).withPort p := by
  have hcompleted : ((s.withPort p).modLink l Link.cut).completeQueue l .lineDown =
      ((s.modLink l Link.cut).completeQueue l .lineDown).withPort p :=
    State.completeQueue_withPort (s.modLink l Link.cut) p l _
  unfold State.resetLine
  rw [hcompleted, State.resetActive_withPort]
  rfl

end

/-- The last parameter byte of a command that its block takes and answers, whatever the port holds besides. -/
theorem exec_of_answer {s u : State} {op : Opcode} {ps : List Byte} {last : Byte} {r : Request} {code : ResponseCode}
    {info : List Byte} (hc : Collecting s op ps) (hlength : (ps ++ [last]).length = op.paramCount)
    (hparsed : parseRequest op (ps ++ [last]) = .ok r)
    (hanswered : ∀ p, (s.withPort p).takeRequest r = (u.withPort p).post code info) :
    exec (commandRow op ps last) s = .next (State.drive { u with port := responding s.port code info }) := by
  rw [exec_of_request hc hlength hparsed]
  exact congrArg (fun t => Host.Outcome.next t.drive) (hanswered { s.port with params := ps ++ [last] })

/-! #### The bytes that ask for a request (section 8.3) -/

theorem entryOf_byteOf (e : EntryNo) : entryOf (byteOf e.val) = e := slotOf_byteOf e

theorem line_toNat (l : Line) : (byteOf l.val).toNat ≤ 3 := by
  rw [byteOf_toNat (by omega)]
  omega

/-- A command of one byte that names a line. -/
theorem checked_lineByte (l : Line) (r : Line → Request) :
    checked [(1, within (byteOf l.val) 0 3)] (r (lineOf (byteOf l.val))) = .ok (r l) := by
  rw [checked_line (line_toNat l), lineOf_byteOf]

theorem flagByte_toNat (b : Bool) : (flagByte b).toNat ≤ 1 := by cases b <;> decide

theorem flagByte_eq_one (b : Bool) : (flagByte b == 1) = b := by cases b <;> rfl

/-- The bytes of a class other than POLL, of a length and room up to 240 and of up to 7 retries ask for that SUBMIT. -/
theorem parseRequest_submit_bytes {p : SubmitParams} (hcls : p.cls ≠ .poll) (hretry : p.retryLimit ≤ 7)
    (hlength : p.requestLength ≤ 240) (hroom : p.replyRoom ≤ 240) :
    parseRequest .submit [byteOf p.line.val, byteOf p.station.val, if p.cls = .urgent then 0 else 1, p.tag,
      byteOf p.retryLimit, byteOf p.requestLength, byteOf p.replyRoom, flagByte p.dma] = .ok (.submit p) := by
  have hretryByte : (byteOf p.retryLimit).toNat = p.retryLimit := byteOf_toNat (by omega)
  have hlengthByte : (byteOf p.requestLength).toNat = p.requestLength := byteOf_toNat (by omega)
  have hroomByte : (byteOf p.replyRoom).toNat = p.replyRoom := byteOf_toNat (by omega)
  have hstation : (byteOf p.station.val).toNat ≤ 31 := by
    rw [byteOf_toNat (by omega)]
    omega
  have hclass : (if (if p.cls = .urgent then (0 : Byte) else 1) = 0 then SlotClass.urgent else .normal) = p.cls := by
    cases h : p.cls with
    | urgent => rfl
    | normal => rfl
    | poll => exact absurd h hcls
  have hclassByte : (if p.cls = .urgent then (0 : Byte) else 1).toNat ≤ 1 := by split <;> decide
  refine (checked_eq_ok_iff _ _ _).2 ⟨?_, ?_⟩
  · rw [lineOf_byteOf, stationOf_byteOf, hclass, hretryByte, hlengthByte, hroomByte, flagByte_eq_one]
  · simpa [within_iff, line_toNat, hstation, hretryByte, hlengthByte, hroomByte, hretry, hlength, hroom,
      flagByte_toNat] using hclassByte

/-- The bytes of a configuration in range ask for that LINE_SET. -/
theorem parseRequest_lineSet_bytes (l : Line) {c : LineConfig} (hc : ConfigInRange c) :
    parseRequest .lineSet [byteOf l.val, lowByte (BitVec.ofNat 16 c.divisor), highByte (BitVec.ofNat 16 c.divisor),
      byteOf c.turnaroundHold, byteOf c.replyTimeout, byteOf c.gapLimit, byteOf c.settleGap, byteOf c.offlineThreshold,
      byteOf c.probeInterval] = .ok (.lineSet l c) := by
  obtain ⟨hdivisor, hhold, htimeout, hgap, hsettle, hthreshold, hprobe⟩ := hc
  have hword : (wordOf (lowByte (BitVec.ofNat 16 c.divisor)) (highByte (BitVec.ofNat 16 c.divisor))).toNat = c.divisor := by
    rw [wordOf_toNat, lowByte, highByte, BitVec.extractLsb'_toNat, BitVec.extractLsb'_toNat, BitVec.toNat_ofNat]
    omega
  have hholdByte : (byteOf c.turnaroundHold).toNat = c.turnaroundHold := byteOf_toNat (by omega)
  have htimeoutByte : (byteOf c.replyTimeout).toNat = c.replyTimeout := byteOf_toNat (by omega)
  have hgapByte : (byteOf c.gapLimit).toNat = c.gapLimit := byteOf_toNat (by omega)
  have hsettleByte : (byteOf c.settleGap).toNat = c.settleGap := byteOf_toNat (by omega)
  have hthresholdByte : (byteOf c.offlineThreshold).toNat = c.offlineThreshold := byteOf_toNat (by omega)
  have hprobeByte : (byteOf c.probeInterval).toNat = c.probeInterval := byteOf_toNat (by omega)
  refine (checked_eq_ok_iff _ _ _).2 ⟨?_, ?_⟩
  · rw [lineOf_byteOf, hword, hholdByte, htimeoutByte, hgapByte, hsettleByte, hthresholdByte, hprobeByte]
  · simp [within_iff, line_toNat, hword, hholdByte, htimeoutByte, hgapByte, hsettleByte, hthresholdByte, hprobeByte,
      hdivisor, hhold, htimeout, hgap, hsettle, hthreshold, hprobe]

/-- The code of a report policy is the byte that POLL_SET reads it from. -/
theorem Policy.ofByte_code (p : Policy) : Policy.ofByte p.code = p := by cases p <;> rfl

/-- The bytes of a definition in range ask for that POLL_SET. -/
theorem parseRequest_pollSet_bytes (l : Line) (e : EntryNo) {d : PollDef} (hstation : d.station ≠ 0)
    (hroom : d.replyRoom ≤ 240) (hretry : d.retryLimit ≤ 7) :
    parseRequest .pollSet [byteOf l.val, byteOf e.val, byteOf d.station.val, d.item, byteOf d.replyRoom, d.policy.code,
      byteOf d.retryLimit, flagByte d.enabled] = .ok (.pollSet l e d) := by
  have hpos : d.station.val ≠ 0 := fun h => hstation (Fin.ext h)
  have hentryByte : (byteOf e.val).toNat ≤ 15 := by
    rw [byteOf_toNat (by omega)]
    omega
  have hstationByte : (byteOf d.station.val).toNat = d.station.val := byteOf_toNat (by omega)
  have hstationRange : 1 ≤ d.station.val ∧ d.station.val ≤ 31 := by omega
  have hroomByte : (byteOf d.replyRoom).toNat = d.replyRoom := byteOf_toNat (by omega)
  have hretryByte : (byteOf d.retryLimit).toNat = d.retryLimit := byteOf_toNat (by omega)
  have hpolicy : d.policy.code.toNat ≤ 2 := by cases d.policy <;> decide
  refine (checked_eq_ok_iff _ _ _).2 ⟨?_, ?_⟩
  · rw [lineOf_byteOf, entryOf_byteOf, stationOf_byteOf, hroomByte, hretryByte, Policy.ofByte_code, flagByte_eq_one]
  · simp [within_iff, line_toNat, hentryByte, hstationByte, hstationRange, hroomByte, hretryByte, hpolicy, hroom, hretry,
      flagByte_toNat]

end Sys2Proof.Machine
end
section
namespace Sys2Proof.Machine

/-! #### POLL_SET and POLL_HALT (R155, R157) -/

section
variable {s : State} {l : Line}

theorem State.takePollSet_of_idle {e : EntryNo} (hpresent : (s.engine l).mode ≠ .absent)
    (hlive : (s.entry l e).live = none)
    (d : PollDef) :
    s.takePollSet l e d = (s.setEntry l e { definition := d, digest := none, live := none }).postDone :=
  (State.ifPresent_of_present hpresent _).trans (if_neg (by rw [hlive]; nofun))

theorem State.takePollHalt_of_present (hpresent : (s.engine l).mode ≠ .absent) :
    s.takePollHalt l = (s.setSched l (s.sched l).halt).postDone :=
  State.ifPresent_of_present hpresent _

end

/-- Settles O19: each command writes its one scheduler. -/
theorem pollSetAndPollHalt : Obligations.PollSetAndPollHalt := by
  refine ⟨fun s l e d hstation hroom hretry hc hpresent hlive => ?_, fun s l hc hpresent => ?_⟩
  · exact exec_of_answer (u := s.setEntry l e { definition := d, digest := none, live := none }) hc rfl
      (parseRequest_pollSet_bytes l e hstation hroom hretry)
      fun p => State.takePollSet_of_idle (s := s.withPort p) hpresent hlive d
  · exact exec_of_answer (u := s.setSched l (s.sched l).halt) hc rfl (checked_lineByte l .pollHalt)
      fun p => State.takePollHalt_of_present (s := s.withPort p) hpresent

/-! #### SUBMIT (R148, R24, R23, R47, R29, R164) -/

section
variable {s : State} {p : SubmitParams} {n : SlotNo}

theorem State.takeSubmit_of_granted (hon : (s.engine p.line).mode = .on) (hfree : s.lowestFree = some n)
    (hblocks : p.blocks ≤ s.freeCount) : s.takeSubmit p = s.submitGranted p n := by
  rw [State.takeSubmit, State.ifPresent_of_present (by simp [hon]), if_neg (not_not.2 hon), hfree]
  exact if_neg hblocks.not_gt

/-- The place in a queue looks at the classes of the slots alone. -/
theorem State.atTailOfClass_congr {s t : State} (h : ∀ m, (s.slot m).cls = (t.slot m).cls) (q : List SlotNo) (n : SlotNo) :
    s.atTailOfClass q n = t.atTailOfClass q n := by
  have hrank : s.rankOf = t.rankOf := funext fun m => congrArg SlotClass.rank (h m)
  rw [State.atTailOfClass, hrank, State.atTailOfClass]

/-- A SUBMIT without a request: the slot joins the tail of its class at once (R24, R29). -/
theorem State.submitGranted_of_empty (h : p.requestLength = 0) :
    s.submitGranted p n =
      ((s.create n { p.slot with state := .queued }).setEngine p.line
        { s.engine p.line with
          queue := (s.create n { p.slot with state := .queued }).atTailOfClass (s.engine p.line).queue n }).post
        .accepted [byteOf n.val] := by
  have hqueued : (s.create n p.slot).setSlot n { (s.create n p.slot).slot n with state := .queued } =
      s.create n { p.slot with state := .queued } := by
    rw [State.create_slot_same, State.create, State.setSlot_setSlot]
    rfl
  have hline : ((s.create n p.slot).slot n).line = p.line := by
    rw [State.create_slot_same]
    rfl
  have hclass (m : SlotNo) : ((s.create n p.slot).slot m).cls =
      ((s.create n { p.slot with state := .queued }).slot m).cls := by
    by_cases hm : n = m
    · rw [← hm, State.create_slot_same, State.create_slot_same]
    · rw [State.create_slot_ne _ _ _ hm, State.create_slot_ne _ _ _ hm]
  unfold State.submitGranted
  dsimp only
  rw [if_pos h, State.joinTail_eq, hqueued, hline, State.atTailOfClass_congr hclass]
  rfl

/-- A SUBMIT with a request: the port enters PAYLOAD and INTAKE is raised (R24, R164). -/
theorem State.submitGranted_of_payload (h : p.requestLength ≠ 0) :
    s.submitGranted p n =
      { s.create n p.slot with
        port := { s.port with state := .payload, loading := some n },
        data := s.data.raiseIntake { total := p.requestLength, dma := p.dma } } :=
  if_neg h

end

/-- Settles O13: the bytes ask for the SUBMIT, the lowest FREE slot and the blocks are there, and the two lengths of request
go their two ways. -/
theorem submitCreatesSlot : Obligations.SubmitCreatesSlot := by
  intro s p n hcls hretry hlength hroom hc hon hfree hleast room request reply hblocks slot created e queue intake
  have hparsed := parseRequest_submit_bytes hcls hretry hlength hroom
  have hgranted (q : CommandPort) : (s.withPort q).takeSubmit p = (s.withPort q).submitGranted p n :=
    State.takeSubmit_of_granted (s := s.withPort q) hon (State.lowestFree_eq_some (s := s.withPort q) hfree hleast) hblocks
  have hcreated : created = s.create n { p.slot with state := if p.requestLength = 0 then .queued else .loading } := rfl
  by_cases hempty : p.requestLength = 0
  · rw [if_pos hempty] at hcreated ⊢
    have hrank : created.rankOf n = p.cls.rank := by
      rw [hcreated, State.rankOf, State.create_slot_same]
      rfl
    have hqueue : created.atTailOfClass e.queue n = queue := by
      rw [State.atTailOfClass, hrank]
      rfl
    refine exec_of_answer (u := created.setEngine p.line { e with queue := queue }) hc rfl hparsed fun q =>
      (hgranted q).trans ?_
    rw [State.submitGranted_of_empty hempty, ← hqueue, hcreated]
    rfl
  · rw [if_neg hempty] at hcreated ⊢
    refine (exec_of_request hc rfl hparsed).trans ?_
    refine congrArg (fun t => Host.Outcome.next (State.drive t)) ((hgranted _).trans ?_)
    obtain ⟨-, -, -, hparams⟩ := hc
    rw [State.submitGranted_of_payload hempty, hcreated, hparams]
    rfl

end Sys2Proof.Machine
end
section
namespace Sys2Proof.Machine

/-! #### CANCEL (R149, R37, R39) -/

section
variable {s : State} {n : SlotNo}

theorem State.takeCancel_of_queued (h : (s.slot n).state = .queued) :
    s.takeCancel n =
      ((s.setEngine (s.slot n).line
        { s.engine (s.slot n).line with queue := (s.engine (s.slot n).line).queue.erase n }).complete
          n .cancelled).postDone := by
  unfold State.takeCancel
  rw [h]
  rfl

theorem State.takeCancel_of_active (h : (s.slot n).state = .active) :
    s.takeCancel n =
      (if (s.engine (s.slot n).line).active = some n then s.cancelActive (s.slot n).line .cancelled else s).postDone := by
  unfold State.takeCancel
  rw [h]

/-- A first cancel sets the flag, and the engine acts on it (R37). -/
theorem State.cancelActive_of_first {l : Line} (hn : (s.engine l).active = some n) (h : (s.slot n).cancelPending = none)
    (o : PendingOutcome) :
    s.cancelActive l o = (s.setSlot n { s.slot n with cancelPending := some o }).engineCancel l n o.outcome := by
  unfold State.cancelActive
  rw [hn]
  dsimp only
  rw [h]
  rfl

/-- A repeated cancel has no effect (R39). -/
theorem State.cancelActive_of_repeated {l : Line} (hn : (s.engine l).active = some n)
    (h : (s.slot n).cancelPending ≠ none) (o : PendingOutcome) : s.cancelActive l o = s := by
  obtain ⟨x, hx⟩ := Option.ne_none_iff_exists'.1 h
  unfold State.cancelActive
  rw [hn]
  dsimp only
  rw [hx]

end

/-- Settles O14: the three cases of CANCEL, each on a port that plays no part in it. -/
theorem cancelActsBySlotState : Obligations.CancelActsBySlotState := by
  intro s n hc l e
  refine ⟨fun hqueued => ?_, fun hactive hn hfirst => ?_, fun hactive hrepeated => ?_⟩
  · refine exec_of_answer hc rfl (parseRequest_cancel n) fun p => ?_
    refine (State.takeCancel_of_queued (s := s.withPort p) hqueued).trans (congrArg State.postDone ?_)
    exact State.complete_withPort (s.setEngine l { e with queue := e.queue.erase n }) p n .cancelled
  · refine exec_of_answer hc rfl (parseRequest_cancel n) fun p => ?_
    refine (State.takeCancel_of_active (s := s.withPort p) hactive).trans (congrArg State.postDone ?_)
    refine (if_pos hn).trans ((State.cancelActive_of_first (s := s.withPort p) hn hfirst _).trans ?_)
    exact State.engineCancel_withPort (s.setSlot n { s.slot n with cancelPending := some .cancelled }) p l n .cancelled
  · refine exec_of_answer hc rfl (parseRequest_cancel n) fun p => ?_
    refine (State.takeCancel_of_active (s := s.withPort p) hactive).trans (congrArg State.postDone ?_)
    split
    · next hn => exact State.cancelActive_of_repeated (s := s.withPort p) hn hrepeated _
    · rfl

/-! #### LINE_SET and LINE_ON (R151, R65, R19, R94, R152, R58) -/

/-- The Station Table's part for a line that takes a configuration (R94): with the threshold as it was nothing is
re-derived. -/
def State.reconfigured (s : State) (l : Line) (c : LineConfig) : StationLine :=
  if c.offlineThreshold = (s.engine l).config.offlineThreshold then s.stationLine l
  else (s.stationLine l).rederived (s.engine l).config.offlineThreshold c.offlineThreshold

/-- Everything a configuration does. -/
theorem State.configure_eq (s : State) (l : Line) (c : LineConfig) :
    s.configure l c =
      { s with engines := s.engines.put l { s.engine l with config := c },
               links := s.links.put l
                 (if c.divisor = (s.engine l).config.divisor then s.link l else (s.link l).newDivisor),
               stations := s.stations.put l (s.reconfigured l c) } := by
  have hlink : s.links.put l (s.link l) = s.links := Table.put_look ..
  have hstation : s.stations.put l (s.stationLine l) = s.stations := Table.put_look ..
  unfold State.configure State.reconfigured
  dsimp only
  split
  · split
    · rw [hlink, hstation]
      rfl
    · rw [hstation]
      rfl
  · split
    · rw [hlink]
      rfl
    · rfl

/-- The stations that join a change set, and no others, are added to its map (R96). -/
theorem stationBits_getLsbD (as : List StationAddr) (m : BitVec 32) (i : Nat) :
    (as.foldl (fun m a => m ||| stationBit a) m).getLsbD i = true ↔ m.getLsbD i = true ∨ ∃ a ∈ as, i = a.val := by
  induction as generalizing m with
  | nil => simp
  | cons a as ih =>
    simp only [List.foldl_cons, ih, BitVec.getLsbD_or, Bool.or_eq_true, stationBit_getLsbD, List.exists_mem_cons_iff,
      or_assoc]

/-- A station of the line crosses the OFFLINE boundary under a new threshold (R94). -/
theorem StationLine.crosses_iff (s : State) (l : Line) (old new : Nat) (a : StationAddr) :
    (s.stationLine l).crosses old new a = true ↔
      a ≠ 0 ∧ ¬ ((s.station l a).derived old = .offline ↔ (s.station l a).derived new = .offline) := by
  unfold StationLine.crosses State.station
  cases ha : stationIndex a with
  | none => simp [(stationIndex_eq_none_iff a).1 ha]
  | some i =>
    have hne : a ≠ 0 := fun h => by simp [(stationIndex_eq_none_iff a).2 h] at ha
    dsimp only
    rw [crossesOffline_iff, and_iff_right hne]

/-- The change set after a change of threshold (R94). -/
theorem StationLine.mem_rederived (s : State) (l : Line) (old new : Nat) (a : StationAddr) :
    ((s.stationLine l).rederived old new).changes.getLsbD a.val = true ↔
      (s.stationLine l).changes.getLsbD a.val = true ∨
        (a ≠ 0 ∧ ¬ ((s.station l a).derived old = .offline ↔ (s.station l a).derived new = .offline)) := by
  unfold StationLine.rederived
  rw [stationBits_getLsbD]
  refine or_congr_right ?_
  constructor
  · rintro ⟨b, hb, hab⟩
    obtain rfl : a = b := Fin.ext hab
    exact (StationLine.crosses_iff s l old new a).1 (List.mem_filter.1 hb).2
  · intro h
    exact ⟨a, List.mem_filter.2 ⟨List.mem_finRange a, (StationLine.crosses_iff s l old new a).2 h⟩, rfl⟩

theorem State.reconfigured_records (s : State) (l : Line) (c : LineConfig) :
    (s.reconfigured l c).records = (s.stationLine l).records := by
  unfold State.reconfigured
  split <;> rfl

/-- A station joins when exactly one of the two thresholds makes it OFFLINE; under one threshold none does. -/
theorem State.mem_reconfigured (s : State) (l : Line) (c : LineConfig) (a : StationAddr) :
    (s.reconfigured l c).changes.getLsbD a.val = true ↔
      (s.stationLine l).changes.getLsbD a.val = true ∨
        (a.val ≠ 0 ∧ ((s.station l a).derived (s.engine l).config.offlineThreshold = .offline ↔
                      (s.station l a).derived c.offlineThreshold ≠ .offline)) := by
  have hzero : a.val ≠ 0 ↔ a ≠ 0 := not_congr (Fin.ext_iff (b := 0)).symm
  rw [hzero, State.reconfigured]
  split
  · next hsame => simp [hsame]
  · rw [StationLine.mem_rederived]
    tauto

/-- Settles O16: the configuration as a whole, and the engine turned ON as an entry to SETTLE. -/
theorem lineSetAndLineOnActOnAnOffLine : Obligations.LineSetAndLineOnActOnAnOffLine := by
  refine ⟨fun s l c hconfig hc hoff => ?_, fun s l hc hoff => ?_⟩
  · have hpresent : (s.engine l).mode ≠ .absent := by simp [hoff]
    have htaken (p : CommandPort) : (s.withPort p).takeLineSet l c = ((s.configure l c).withPort p).postDone := by
      refine (State.ifPresent_of_present (s := s.withPort p) hpresent _).trans ((if_pos hoff).trans ?_)
      rw [State.configure_eq, State.configure_eq]
      rfl
    have hexec := exec_of_answer (u := s.configure l c) hc rfl (parseRequest_lineSet_bytes l hconfig) htaken
    have hline (k : Line) : (s.stations.put l (s.reconfigured l c)).look k =
        if l = k then s.reconfigured l c else s.stationLine k := Table.look_put ..
    rw [State.configure_eq] at hexec
    refine ⟨_, hexec, rfl, rfl, fun k => ?_, fun k hk => ?_, fun a => ?_, rfl⟩
    · refine (congrArg StationLine.records (hline k)).trans ?_
      split
      · next hlk => rw [← hlk, State.reconfigured_records]
      · rfl
    · refine (congrArg StationLine.changes (hline k)).trans ?_
      rw [if_neg (Ne.symm hk)]
    · rw [← s.mem_reconfigured l c a]
      exact iff_of_eq (congrArg (fun t : StationLine => t.changes.getLsbD a.val = true) ((hline l).trans (if_pos rfl)))
  · have hpresent : (s.engine l).mode ≠ .absent := by simp [hoff]
    rw [← Engine.settle_eq]
    exact exec_of_answer (u := s.setEngine l ((s.engine l).turnOn (s.link l).quietTime)) hc rfl
      (checked_lineByte l .lineOn) fun p =>
        (State.ifPresent_of_present (s := s.withPort p) hpresent _).trans (if_pos hoff)

end Sys2Proof.Machine
end
section
namespace Sys2Proof.Machine

/-! #### LINE_OFF (R153, R59, R60, R106) -/

/-- The bytes of a line and of a kind ask for that LINE_OFF. -/
theorem parseRequest_lineOff_bytes (l : Line) {kind : Byte} (hkind : kind.toNat ≤ 1) :
    parseRequest .lineOff [byteOf l.val, kind] = .ok (.lineOff l (if kind = 0 then .drain else .abort)) :=
  (checked_eq_ok_iff _ _ _).2 ⟨by rw [lineOf_byteOf], by simp [within_iff, line_toNat, hkind]⟩

section
variable {s : State} {l : Line}

theorem State.takeLineOff_of_on (h : (s.engine l).mode = .on) (k : DrainKind) :
    s.takeLineOff l k = (s.turnOff l k).postDone := by
  simp only [State.takeLineOff, h]

/-- An abort of a line that drains (R59). -/
theorem State.takeLineOff_of_drain (h : (s.engine l).mode = .draining) (hkind : (s.engine l).drainKind = some .drain) :
    s.takeLineOff l .abort = (s.abortLine l).postDone := by
  simp only [State.takeLineOff, h, hkind, and_self, if_true]

/-- The state of a line that an abort has made DRAINING, with its queue completed (R60). -/
def State.abortedQueue (s : State) (l : Line) : State :=
  (s.setEngine l ((s.engine l).drain .abort)).completeQueue l .lineDown

theorem State.abortedQueue_active (s : State) (l : Line) : ((s.abortedQueue l).engine l).active = (s.engine l).active := by
  rw [State.abortedQueue, State.completeQueue_engine, State.setEngine_engine_same, State.setEngine_engine_same]
  rfl

theorem State.abortLine_of_none (h : (s.engine l).active = none) : s.abortLine l = s.abortedQueue l := by
  change (s.abortedQueue l).cancelActive l .lineDown = _
  rw [State.cancelActive, State.abortedQueue_active, h]

/-- The active slot of an aborted line is cancelled unless it is already (R39, R60). -/
theorem State.abortLine_of_active {n : SlotNo} (hn : (s.engine l).active = some n) :
    s.abortLine l =
      if ((s.abortedQueue l).slot n).cancelPending = none then
        ((s.abortedQueue l).setSlot n { (s.abortedQueue l).slot n with cancelPending := some .lineDown }).engineCancel l n
          .lineDown
      else s.abortedQueue l := by
  have hactive : ((s.abortedQueue l).engine l).active = some n := s.abortedQueue_active l ▸ hn
  change (s.abortedQueue l).cancelActive l .lineDown = _
  split
  · next hfirst => exact State.cancelActive_of_first hactive hfirst _
  · next hrepeated => exact State.cancelActive_of_repeated hactive hrepeated _

/-- LINE_OFF of an ON line whose engine holds no slot (R59). -/
theorem State.turnOff_of_none (h : (s.engine l).active = none) (k : DrainKind) :
    s.turnOff l k =
      match k with
      | .drain => (s.setSched l (s.sched l).halt).setEngine l (s.engine l).toOff
      | .abort => ((s.setSched l (s.sched l).halt).setEngine l (s.engine l).toOff).completeQueue l .lineDown := by
  unfold State.turnOff
  rw [h]
  cases k <;> rfl

/-- LINE_OFF of an ON line whose engine holds a slot (R59, R60). -/
theorem State.turnOff_of_active (h : (s.engine l).active ≠ none) (k : DrainKind) :
    s.turnOff l k =
      match k with
      | .drain => (s.setSched l (s.sched l).halt).setEngine l ((s.engine l).drain .drain)
      | .abort => (s.setSched l (s.sched l).halt).abortLine l := by
  obtain ⟨n, hn⟩ := Option.ne_none_iff_exists'.1 h
  unfold State.turnOff
  rw [hn]
  cases k <;> rfl

end

/-- Settles O17: by mode, active slot and kind, each on a port that plays no part in it. -/
theorem lineOffDrainsOrAborts : Obligations.LineOffDrainsOrAborts := by
  intro s l hc e halted off aborting answers
  have haborting (t : State) (ht : t.engine l = e) : t.abortLine l = aborting t := by
    have hqueue : t.abortedQueue l =
        ({ t with engines := t.engines.put l { e with mode := .draining, drainKind := some .abort } }).completeQueue l
          .lineDown := by
      rw [State.abortedQueue, ht]
      rfl
    dsimp only [aborting]
    rw [← hqueue]
    split
    · next hnone => exact State.abortLine_of_none (by rw [ht]; exact hnone)
    · next n hn => exact State.abortLine_of_active (by rw [ht]; exact hn)
  have hdrain {u : State} (hu : ∀ p, (s.withPort p).takeLineOff l .drain = (u.withPort p).postDone) : answers 0 u :=
    exec_of_answer hc rfl (parseRequest_lineOff_bytes l (by decide)) hu
  have habort {u : State} (hu : ∀ p, (s.withPort p).takeLineOff l .abort = (u.withPort p).postDone) : answers 1 u :=
    exec_of_answer hc rfl (parseRequest_lineOff_bytes l (by decide)) hu
  have hturned (hon : e.mode = .on) (k : DrainKind) (p : CommandPort) :
      (s.withPort p).takeLineOff l k = ((s.turnOff l k).withPort p).postDone := by
    rw [State.takeLineOff_of_on (s := s.withPort p) hon, State.turnOff_withPort]
  refine ⟨fun hon hnone => ⟨hdrain fun p => ?_, habort fun p => ?_⟩,
    fun hon hactive => ⟨hdrain fun p => ?_, habort fun p => ?_⟩, fun hdraining hkind => habort fun p => ?_⟩
  · rw [hturned hon, State.turnOff_of_none hnone]
    rfl
  · rw [hturned hon, State.turnOff_of_none hnone]
    rfl
  · rw [hturned hon, State.turnOff_of_active hactive]
    rfl
  · rw [hturned hon, State.turnOff_of_active hactive]
    exact congrArg (fun t => State.postDone (State.withPort t p)) (haborting (s.setSched l halted) rfl)
  · rw [State.takeLineOff_of_drain (s := s.withPort p) hdraining hkind, State.abortLine_withPort, haborting s rfl]

/-! #### QUERY (R160 to R163) -/

/-- The derived state of a station from 1 to 31, in the codes of section 11.6: the first of R88's table that applies. -/
theorem State.derivedOf_code (s : State) (l : Line) {a : StationAddr} (ha : a ≠ 0) :
    (s.derivedOf l a).code =
      if (s.engine l).config.offlineThreshold ≤ (s.station l a).failureCount then 3
      else if 0 < (s.station l a).failureCount then 2
      else if (s.station l a).replied then 1
      else 0 := by
  have hderived : s.derivedOf l a = (s.station l a).derived (s.threshold l) := by
    unfold State.derivedOf
    split
    · rfl
    · next hnone => exact absurd ((stationIndex_eq_none_iff a).1 hnone) ha
  rw [hderived, Station.derived, State.threshold]
  split_ifs <;> rfl

/-- A QUERY of one line whose kind leaves byte b free. -/
theorem checked_queryLine (l : Line) (r : Line → Request) :
    checked [(2, within (byteOf l.val) 0 3)] (r (lineOf (byteOf l.val))) = .ok (r l) :=
  (checked_eq_ok_iff _ _ _).2 ⟨by rw [lineOf_byteOf], by simp [within_iff, line_toNat]⟩

theorem parseRequest_querySlot_bytes (n : SlotNo) (b : Byte) :
    parseRequest .query [1, byteOf n.val, b] = .ok (.querySlot n) := by
  have hslot : (byteOf n.val).toNat ≤ 15 := by
    rw [byteOf_toNat (by omega)]
    omega
  exact (checked_eq_ok_iff _ _ _).2 ⟨by rw [slotOf_byteOf], by simp [within_iff, hslot]⟩

theorem parseRequest_queryStation_bytes (l : Line) {a : StationAddr} (ha : a ≠ 0) :
    parseRequest .query [3, byteOf l.val, byteOf a.val] = .ok (.queryStation l a) := by
  have hpos : a.val ≠ 0 := fun h => ha (Fin.ext h)
  have hstation : 1 ≤ (byteOf a.val).toNat ∧ (byteOf a.val).toNat ≤ 31 := by
    rw [byteOf_toNat (by omega)]
    omega
  exact (checked_eq_ok_iff _ _ _).2 ⟨by rw [lineOf_byteOf, stationOf_byteOf], by simp [within_iff, line_toNat, hstation]⟩

theorem parseRequest_queryEntry_bytes (l : Line) (e : EntryNo) :
    parseRequest .query [5, byteOf l.val, byteOf e.val] = .ok (.queryEntry l e) := by
  have hentry : (byteOf e.val).toNat ≤ 15 := by
    rw [byteOf_toNat (by omega)]
    omega
  exact (checked_eq_ok_iff _ _ _).2 ⟨by rw [lineOf_byteOf, entryOf_byteOf], by simp [within_iff, line_toNat, hentry]⟩

/-- A QUERY that its block takes is answered DONE with its record; `record` is the record as the formats
chapter writes it. -/
theorem exec_of_query {s u : State} {ps : List Byte} {last : Byte} {r : Request} {info record : List Byte}
    (hc : Collecting s .query ps) (hlength : (ps ++ [last]).length = 3)
    (hparsed : parseRequest .query (ps ++ [last]) = .ok r)
    (hanswered : ∀ p, (s.withPort p).takeRequest r = (u.withPort p).post .done info) (hrecord : info = record) :
    exec (commandRow .query ps last) s = .next (State.drive { u with port := responding s.port .done record }) :=
  hrecord ▸ exec_of_answer hc hlength hparsed hanswered

/-- Settles O21: each kind reads its bytes, resets what it resets, and answers its record. -/
theorem queryReturnsItsRecord : Obligations.QueryReturnsItsRecord := by
  refine ⟨⟨rfl, rfl, rfl, rfl, rfl, rfl, rfl, rfl, rfl, rfl, rfl, rfl⟩, fun s l a b => ?_⟩
  refine ⟨fun hc => ?_, fun n hc => ?_, fun hc => ?_, fun n hn hc => ?_, fun hc => ?_, fun n hc => ?_⟩
  · exact exec_of_query (u := { s with pool := { s.pool with leastFree := s.freeCount } }) (r := .queryPool) hc rfl rfl
      (fun _ => rfl) rfl
  · refine exec_of_query (u := s) (info := (s.slot n).record) hc rfl (parseRequest_querySlot_bytes n b) (fun _ => rfl) ?_
    simp only [Slot.record, outcomeCode, List.cons.injEq, true_and, and_true]
    refine ⟨?_, ?_, ?_, ?_⟩
    · cases (s.slot n).replyLength <;> rfl
    · cases (s.slot n).lastFailure <;> rfl
    · cases (s.slot n).cancelPending <;> rfl
    · cases (s.slot n).outcome <;> rfl
  · refine exec_of_query (u := s.setSched l { s.sched l with deferrals := 0 }) (info := s.lineRecord l) (last := b) hc rfl
      (checked_queryLine l .queryLine) (fun _ => rfl) ?_
    simp only [State.lineRecord, twoBytes, slotCode, List.cons_append, List.nil_append, List.cons.injEq, true_and, and_true]
    refine ⟨?_, ?_⟩
    · cases (s.engine l).drainKind <;> rfl
    · cases (s.engine l).active <;> rfl
  · refine exec_of_query (u := s) (info := s.stationRecord l n) hc rfl (parseRequest_queryStation_bytes l hn)
      (fun _ => rfl) ?_
    rw [State.stationRecord, State.derivedOf_code s l hn]
  · exact exec_of_query (u := s.setStationLine l { s.stationLine l with changes := 0 }) (last := b) hc rfl
      (checked_queryLine l .queryChanges) (fun _ => rfl) rfl
  · refine exec_of_query (u := s) (info := (s.entry l n).record) hc rfl (parseRequest_queryEntry_bytes l n)
      (fun _ => rfl) ?_
    simp only [PollEntry.record, slotCode, List.cons.injEq, true_and, and_true]
    refine ⟨?_, ?_, ?_⟩
    · cases (s.entry l n).digest <;> rfl
    · cases (s.entry l n).digest <;> rfl
    · cases (s.entry l n).live <;> rfl

end Sys2Proof.Machine
end
section
namespace Sys2Proof.Machine

/-! #### The completion of several slots (R35, R36, R41, R42, R49, R116, R124, R132) -/

/-- The record of a slot that completes with an outcome other than OK and SENT: a HOST slot is DONE, a POLL slot FREE. -/
def State.endedSlot (s : State) (n : SlotNo) (o : TransactionOutcome) : Slot :=
  match (s.slot n).origin with
  | .host => { s.slot n with state := .done, outcome := some o, doneTime := s.tick }
  | .poll => Slot.cleared

/-- The TRANSACTION records that the HOST slots among some slots leave, in order (R124). -/
def hostRecords (s : State) (ns : List SlotNo) : List Record :=
  (ns.filter fun n => (s.slot n).origin == .host).map (hostRecord s)

/-- One of the slots makes a station UNSYNC (R36). -/
abbrev Unsyncs (s : State) (ns : List SlotNo) (k : Line) (a : StationAddr) : Prop :=
  a ≠ 0 ∧ ∃ n ∈ ns, (s.slot n).line = k ∧ (s.slot n).station = a ∧ (s.slot n).requestSent = true

/-- One of the slots is a POLL slot of an entry, which loses its digest and its live slot (R116). -/
abbrev EndsPollOf (s : State) (ns : List SlotNo) (k : Line) (e : EntryNo) : Prop :=
  ∃ n ∈ ns, (s.slot n).line = k ∧ (s.slot n).origin = .poll ∧ (s.slot n).entryNo = e

/-- How the completion of some slots, with outcomes other than OK and SENT, leads from one state to another. -/
structure Completed (s : State) (ns : List SlotNo) (o : SlotNo → TransactionOutcome) (t : State) : Prop where
  slot : ∀ n, t.slot n = if n ∈ ns then s.endedSlot n (o n) else s.slot n
  queue : t.queue = (hostRecords s ns).foldl appended s.queue
  free : t.pool.free = s.pool.free ++ returnedBlocks s ns
  station : ∀ k a, t.station k a = if Unsyncs s ns k a then { s.station k a with sync := .unsync } else s.station k a
  changes : ∀ k, (t.stationLine k).changes = (s.stationLine k).changes
  entry : ∀ k e, t.entry k e =
    if EndsPollOf s ns k e then { s.entry k e with digest := none, live := none } else s.entry k e
  sched : ∀ k, t.sched k = { s.sched k with entries := (t.sched k).entries }
  config : ∀ k, (t.engine k).config = (s.engine k).config
  tick : t.tick = s.tick

theorem Completed.nil (s : State) (o : SlotNo → TransactionOutcome) : Completed s [] o s where
  slot _ := (if_neg List.not_mem_nil).symm
  queue := rfl
  free := (List.append_nil _).symm
  station _ _ := (if_neg fun ⟨_, _, hn, _⟩ => List.not_mem_nil hn).symm
  changes _ := rfl
  entry _ _ := (if_neg fun ⟨_, hn, _⟩ => List.not_mem_nil hn).symm
  sched _ := rfl
  config _ := rfl
  tick := rfl

section
variable {s t u : State} {ns ms : List SlotNo} {o : SlotNo → TransactionOutcome}

/-- An engine that keeps its configuration plays no part in what the completions do. -/
theorem Completed.setEngine (h : Completed s ns o t) (l : Line) {e : Engine} (hconfig : e.config = (t.engine l).config) :
    Completed s ns o (t.setEngine l e) where
  slot := h.slot
  queue := h.queue
  free := h.free
  station := h.station
  changes := h.changes
  entry := h.entry
  sched := h.sched
  config k := by
    rw [State.setEngine_engine, ← h.config k]
    split
    · next hk => rw [hconfig, hk]
    · rfl
  tick := h.tick

/-- The derived state does not read sync, so the completions leave it (R88). -/
theorem Completed.derivedOf (h : Completed s ns o t) (k : Line) (a : StationAddr) : t.derivedOf k a = s.derivedOf k a := by
  have hthreshold : t.threshold k = s.threshold k := congrArg LineConfig.offlineThreshold (h.config k)
  unfold State.derivedOf
  rw [hthreshold, h.station]
  split
  · split <;> rfl
  · rfl

/-- What reads only the records of slots that have not completed reads what it read before. -/
theorem Completed.slot_of_not_mem (h : Completed s ns o t) {n : SlotNo} (hn : n ∉ ns) : t.slot n = s.slot n :=
  (h.slot n).trans (if_neg hn)

section
variable (h : Completed s ns o t) (hms : ∀ m ∈ ms, m ∉ ns)
include h hms

theorem Completed.hostRecords_later : hostRecords t ms = hostRecords s ms := by
  have hfilter : (ms.filter fun n => (t.slot n).origin == .host) = ms.filter fun n => (s.slot n).origin == .host :=
    List.filter_congr fun m hm => by rw [h.slot_of_not_mem (hms m hm)]
  unfold hostRecords
  rw [hfilter]
  refine List.map_congr_left fun m hm => ?_
  rw [hostRecord, hostRecord, h.slot_of_not_mem (hms m (List.mem_of_mem_filter hm)), h.derivedOf]

theorem Completed.returnedBlocks_later : returnedBlocks t ms = returnedBlocks s ms := by
  have hfilter : (ms.filter fun n => (t.slot n).origin == .poll) = ms.filter fun n => (s.slot n).origin == .poll :=
    List.filter_congr fun m hm => by rw [h.slot_of_not_mem (hms m hm)]
  unfold returnedBlocks
  rw [hfilter]
  refine List.flatMap_congr fun m hm => ?_
  rw [h.slot_of_not_mem (hms m (List.mem_of_mem_filter hm))]

theorem Completed.unsyncs_later (k : Line) (a : StationAddr) : Unsyncs t ms k a ↔ Unsyncs s ms k a :=
  and_congr_right fun _ => exists_congr fun m => and_congr_right fun hm => by rw [h.slot_of_not_mem (hms m hm)]

theorem Completed.endsPollOf_later (k : Line) (e : EntryNo) : EndsPollOf t ms k e ↔ EndsPollOf s ms k e :=
  exists_congr fun m => and_congr_right fun hm => by rw [h.slot_of_not_mem (hms m hm)]

end

theorem hostRecords_append (s : State) (ns ms : List SlotNo) :
    hostRecords s (ns ++ ms) = hostRecords s ns ++ hostRecords s ms := by simp [hostRecords]

theorem returnedBlocks_append (s : State) (ns ms : List SlotNo) :
    returnedBlocks s (ns ++ ms) = returnedBlocks s ns ++ returnedBlocks s ms := by simp [returnedBlocks]

theorem unsyncs_append (s : State) (ns ms : List SlotNo) (k : Line) (a : StationAddr) :
    Unsyncs s (ns ++ ms) k a ↔ Unsyncs s ns k a ∨ Unsyncs s ms k a := by
  simp [Unsyncs, or_and_right, exists_or, and_or_left]

theorem endsPollOf_append (s : State) (ns ms : List SlotNo) (k : Line) (e : EntryNo) :
    EndsPollOf s (ns ++ ms) k e ↔ EndsPollOf s ns k e ∨ EndsPollOf s ms k e := by
  simp [EndsPollOf, or_and_right, exists_or]

/-- A change made by the first, by the second or by both of two causes is made once. -/
theorem ite_ite_or {α : Type} {p q : Prop} [Decidable p] [Decidable q] [Decidable (p ∨ q)] (f : α → α) (x : α)
    (hf : f (f x) = f x) : (if q then f (if p then f x else x) else if p then f x else x) = if p ∨ q then f x else x := by
  by_cases hp : p
  · by_cases hq : q <;> simp [hp, hq, hf]
  · by_cases hq : q <;> simp [hp, hq]

/-- Completions follow one another: the later slots are read as they stood before the earlier ones completed. -/
theorem Completed.trans (h : Completed s ns o t) (h' : Completed t ms o u) (hms : ∀ m ∈ ms, m ∉ ns) :
    Completed s (ns ++ ms) o u where
  slot n := by
    rw [h'.slot]
    by_cases hn : n ∈ ms
    · have hsame := h.slot_of_not_mem (hms n hn)
      rw [if_pos hn, if_pos (List.mem_append_right ns hn), State.endedSlot, State.endedSlot, hsame, h.tick]
    · rw [if_neg hn, h.slot]
      simp only [List.mem_append, hn, or_false]
  queue := by rw [h'.queue, h.hostRecords_later hms, h.queue, hostRecords_append, List.foldl_append]
  free := by rw [h'.free, h.returnedBlocks_later hms, h.free, returnedBlocks_append, List.append_assoc]
  station k a := by
    rw [h'.station, h.station]
    simp only [h.unsyncs_later hms, unsyncs_append]
    exact ite_ite_or (fun x : Station => { x with sync := .unsync }) _ rfl
  changes k := (h'.changes k).trans (h.changes k)
  entry k e := by
    rw [h'.entry, h.entry]
    simp only [h.endsPollOf_later hms, endsPollOf_append]
    exact ite_ite_or (fun x : PollEntry => { x with digest := none, live := none }) _ rfl
  sched k := by
    have hsched := h'.sched k
    rw [h.sched k] at hsched
    exact hsched
  config k := (h'.config k).trans (h.config k)
  tick := h'.tick.trans h.tick

/-- The Station Table after a completion is that of the desynchronization rule. -/
theorem State.complete_stations (s : State) (n : SlotNo) (oc : TransactionOutcome) :
    (s.complete n oc).stations = (s.desync n oc).stations := by
  cases horigin : (s.slot n).origin with
  | host => rw [State.complete_of_host oc horigin]
  | poll =>
    obtain ⟨hstations, -⟩ := s.complete_of_poll_frame n oc horigin
    exact hstations

theorem State.complete_tick (s : State) (n : SlotNo) (oc : TransactionOutcome) : (s.complete n oc).tick = s.tick := by
  rw [State.complete_frame]

theorem unsyncs_singleton (s : State) (n : SlotNo) {oc : TransactionOutcome}
    (hok : oc ≠ .ok) (hsent : oc ≠ .sent) (k : Line)
    (a : StationAddr) :
    (k = (s.slot n).line ∧ a = (s.slot n).station ∧ a ≠ 0 ∧ Desyncs (s.slot n) oc) ↔ Unsyncs s [n] k a := by
  simp only [Unsyncs, Desyncs, List.mem_singleton, exists_eq_left, hok, hsent, ne_eq, not_false_eq_true, and_true]
  constructor
  · rintro ⟨rfl, rfl, hne, hrequest⟩
    exact ⟨hne, rfl, rfl, hrequest⟩
  · rintro ⟨hne, rfl, rfl, hrequest⟩
    exact ⟨rfl, rfl, hne, hrequest⟩

section
variable {n : SlotNo} {oc : TransactionOutcome} (hok : oc ≠ .ok)
include hok

/-- A POLL slot that completes with an outcome other than OK makes no report (R116). -/
theorem State.complete_of_poll_failed (horigin : (s.slot n).origin = .poll) :
    s.complete n oc =
      { s with slots := s.slots.put n Slot.cleared,
               stations := (s.desync n oc).stations,
               pool := { s.pool with free := s.pool.free ++ (s.slot n).requestChain ++ (s.slot n).replyChain },
               scheds := (s.setEntry (s.slot n).line (s.slot n).entryNo
                 { s.entryOfSlot n with digest := none, live := none }).scheds } := by
  have hsilent : ¬ PollReported s n oc := fun h => hok h.1
  rw [State.complete_of_silent horigin hsilent, if_neg hok]

theorem State.complete_slots : (s.complete n oc).slots = s.slots.put n (s.endedSlot n oc) := by
  unfold State.endedSlot
  cases horigin : (s.slot n).origin with
  | host => rw [State.complete_of_host oc horigin]
  | poll => rw [State.complete_of_poll_failed hok horigin]

theorem State.complete_scheds :
    (s.complete n oc).scheds =
      if (s.slot n).origin = .poll then
        (s.setEntry (s.slot n).line (s.slot n).entryNo { s.entryOfSlot n with digest := none, live := none }).scheds
      else s.scheds := by
  cases horigin : (s.slot n).origin with
  | host =>
    rw [State.complete_of_host oc horigin]
    rfl
  | poll =>
    rw [State.complete_of_poll_failed hok horigin]
    rfl

end

/-- What one slot leaves: a HOST slot its record, a POLL slot its blocks and its entry. -/
theorem completed_singleton {n : SlotNo} (hok : o n ≠ .ok) (hsent : o n ≠ .sent) :
    Completed s [n] o (s.complete n (o n)) where
  slot m := by
    simp only [State.slot, State.complete_slots hok, Table.look_put, List.mem_singleton, eq_comm (a := m)]
    split
    · next hm => rw [hm]
    · rfl
  queue := by
    cases horigin : (s.slot n).origin with
    | host =>
      rw [State.complete_of_host _ horigin]
      simp [hostRecords, horigin]
    | poll =>
      rw [State.complete_of_poll_failed hok horigin]
      simp [hostRecords, horigin]
  free := by
    cases horigin : (s.slot n).origin with
    | host =>
      rw [State.complete_of_host _ horigin]
      simp [returnedBlocks, horigin]
    | poll =>
      rw [State.complete_of_poll_failed hok horigin]
      simp [returnedBlocks, horigin]
  station k a := by
    rw [State.station_congr (s.complete_stations n (o n)), State.desync_station]
    simp only [unsyncs_singleton s n hok hsent]
  changes k := by rw [State.stationLine_congr (s.complete_stations n (o n)), State.desync_changes]
  entry k e := by
    have hscheds := State.complete_scheds (s := s) (n := n) hok
    by_cases horigin : (s.slot n).origin = .poll
    · have hends : EndsPollOf s [n] k e ↔ k = (s.slot n).line ∧ e = (s.slot n).entryNo := by
        simp [EndsPollOf, horigin, eq_comm]
      rw [if_pos horigin] at hscheds
      rw [State.entry_congr hscheds, State.setEntry_entry]
      simp only [hends]
      split
      · next hat =>
        obtain ⟨rfl, rfl⟩ := hat
        rfl
      · rfl
    · have hnone : ¬ EndsPollOf s [n] k e := by simp [EndsPollOf, horigin]
      rw [if_neg horigin] at hscheds
      rw [State.entry_congr hscheds, if_neg hnone]
  sched k := by
    have hscheds := State.complete_scheds (s := s) (n := n) hok
    split at hscheds
    · rw [State.sched_congr hscheds]
      exact s.setEntry_sched ..
    · rw [State.sched_congr hscheds]
  config k := by rw [State.complete_engine]
  tick := s.complete_tick n (o n)

/-- Several slots complete in order, each once. -/
theorem Completed.completeAll {oc : TransactionOutcome} (hok : oc ≠ .ok) (hsent : oc ≠ .sent) (h : Completed s ns o t)
    (ho : ∀ m ∈ ms, o m = oc) (hnew : ∀ m ∈ ms, m ∉ ns) (honce : ms.Nodup) :
    Completed s (ns ++ ms) o (t.completeAll ms oc) := by
  induction ms generalizing t ns with
  | nil =>
    rw [List.append_nil]
    exact h
  | cons m ms ih =>
    obtain ⟨hm, hms⟩ := List.nodup_cons.1 honce
    obtain ⟨hom, ho⟩ := List.forall_mem_cons.1 ho
    obtain ⟨hmnew, hnew⟩ := List.forall_mem_cons.1 hnew
    have hsingle : Completed t [m] o (t.complete m oc) := hom ▸ completed_singleton (hom ▸ hok) (hom ▸ hsent)
    have hfirst : Completed s (ns ++ [m]) o (t.complete m oc) := h.trans hsingle (by simpa using hmnew)
    have hrest : ∀ n ∈ ms, n ∉ ns ++ [m] := fun n hn hmem => by
      obtain hold | hlast := List.mem_append.1 hmem
      · exact hnew n hn hold
      · exact hm (List.mem_singleton.1 hlast ▸ hn)
    rw [List.append_cons]
    exact ih hfirst ho hrest hms

/-- Every slot of a line's pending queue completes with one outcome. -/
theorem completed_completeQueue {l : Line} {oc : TransactionOutcome} (hok : oc ≠ .ok) (hsent : oc ≠ .sent)
    (ho : ∀ m ∈ (s.engine l).queue, o m = oc) (honce : (s.engine l).queue.Nodup) :
    Completed s (s.engine l).queue o (s.completeQueue l oc) := by
  have hempty : Completed s [] o (s.setEngine l { s.engine l with queue := [] }) := (Completed.nil s o).setEngine l rfl
  exact hempty.completeAll hok hsent ho (fun _ _ => List.not_mem_nil) honce

end

/-- What the completion of a queue may change besides emptying it. -/
theorem State.completeQueue_frame (s : State) (l : Line) (oc : TransactionOutcome) :
    s.completeQueue l oc =
      { s with slots := (s.completeQueue l oc).slots, pool := { s.pool with free := (s.completeQueue l oc).pool.free },
               engines := s.engines.put l { s.engine l with queue := [] }, stations := (s.completeQueue l oc).stations,
               scheds := (s.completeQueue l oc).scheds, queue := (s.completeQueue l oc).queue } := by
  have hframe := State.completeAll_frame (s.engine l).queue oc (s.setEngine l { s.engine l with queue := [] })
  obtain ⟨a, b, c, d, f, g, h, hall⟩ : ∃ a b c d f g h, s.completeQueue l oc =
      { s.setEngine l { s.engine l with queue := [] } with
        slots := a, pool := { s.pool with free := b }, stations := c, scheds := d,
        queue := { s.queue with records := f, headerPos := g, hold := h } } := ⟨_, _, _, _, _, _, _, hframe⟩
  rw [hall]
  rfl

/-- Slots of one line make stations of that line UNSYNC alone. -/
theorem unsyncs_of_line {s : State} {ns : List SlotNo} {l : Line} (hline : ∀ n ∈ ns, (s.slot n).line = l) (k : Line)
    (a : StationAddr) :
    Unsyncs s ns k a ↔ k = l ∧ a ≠ 0 ∧ ∃ n ∈ ns, (s.slot n).station = a ∧ (s.slot n).requestSent = true := by
  constructor
  · rintro ⟨ha, n, hn, rfl, hstation, hrequest⟩
    exact ⟨hline n hn, ha, n, hn, hstation, hrequest⟩
  · rintro ⟨rfl, ha, n, hn, hstation, hrequest⟩
    exact ⟨ha, n, hn, hline n hn, hstation, hrequest⟩

/-- Slots of one line end polls of that line's entries alone; a slot's tag names the entry. -/
theorem endsPollOf_of_line {s : State} {ns : List SlotNo} {l : Line} (hline : ∀ n ∈ ns, (s.slot n).line = l) (k : Line)
    (e : EntryNo) :
    EndsPollOf s ns k e ↔ k = l ∧ ∃ n ∈ ns, (s.slot n).origin = .poll ∧ (s.slot n).tag.toNat % 16 = e.val := by
  have hentry (n : SlotNo) : (s.slot n).entryNo = e ↔ (s.slot n).tag.toNat % 16 = e.val :=
    eq_comm.trans (((s.slot n).eq_entryNo_iff e).trans eq_comm)
  constructor
  · rintro ⟨n, hn, rfl, horigin, htag⟩
    exact ⟨hline n hn, n, hn, horigin, (hentry n).1 htag⟩
  · rintro ⟨rfl, n, hn, horigin, htag⟩
    exact ⟨n, hn, hline n hn, horigin, (hentry n).2 htag⟩

/-- Settles O15: PURGE is the completion of the queue, whose slots all stand on the line. -/
theorem purgeCompletesTheQueue : Obligations.PurgeCompletesTheQueue := by
  refine ⟨fun s l hc hpresent => ?_, fun s l o hplaces hok hsent => ?_⟩
  · refine exec_of_answer hc rfl (checked_lineByte l .purge) fun p => ?_
    refine (State.ifPresent_of_present (s := s.withPort p) hpresent _).trans (congrArg State.postDone ?_)
    exact s.completeQueue_withPort p l .cancelled
  · intro queue t
    obtain ⟨-, ⟨hqueued, -, honce, -⟩, -⟩ := hplaces
    have hline : ∀ n ∈ queue, (s.slot n).line = l := fun n hn => (hqueued l n hn).2
    have h : Completed s queue (fun _ => o) t := completed_completeQueue hok hsent (fun _ _ => rfl) (honce l)
    refine ⟨fun n hn horigin => ?_, fun n hn horigin => ?_, fun n hn => h.slot_of_not_mem hn, h.queue, h.free,
      fun k a => ?_,
      fun k e => ?_, fun k => ⟨h.changes k, h.sched k⟩, s.completeQueue_frame l o⟩
    · rw [h.slot, if_pos hn, State.endedSlot, horigin]
    · rw [h.slot, if_pos hn, State.endedSlot, horigin]
    · rw [h.station]
      exact if_congr (unsyncs_of_line hline k a) rfl rfl
    · rw [h.entry]
      exact if_congr (endsPollOf_of_line hline k e) rfl rfl

end Sys2Proof.Machine
end
section
namespace Sys2Proof.Machine

/-! #### LINE_RESET (R154, R62, R42, R19, R101, R121, R174) -/

/-- The slots that LINE_RESET completes: the queue in order, the active slot last (R42). -/
def State.lineSlots (s : State) (l : Line) : List SlotNo := (s.engine l).queue ++ (s.engine l).active.toList

/-- The outcome of a slot that LINE_RESET completes: an active slot's cancel pending flag goes before LINE_DOWN (R42). -/
def State.resetOutcome (s : State) (l : Line) (n : SlotNo) : TransactionOutcome :=
  if (s.engine l).active = some n ∧ (s.slot n).cancelPending = some .cancelled then .cancelled else .lineDown

/-- The state of a line whose slots LINE_RESET has completed: the frame is cut, queue and active slot are gone (R42, R62). -/
def State.lineEnded (s : State) (l : Line) : State :=
  ((s.modLink l Link.cut).completeQueue l .lineDown).resetActive l

section
variable {s t : State} {l : Line} {n : SlotNo}

theorem State.resetOutcome_of_active (h : (s.engine l).active = some n) :
    s.resetOutcome l n = ((s.slot n).cancelPending.map PendingOutcome.outcome).getD .lineDown := by
  unfold State.resetOutcome
  match hpending : (s.slot n).cancelPending with
  | none => simp
  | some .cancelled => simp [h, PendingOutcome.outcome]
  | some .lineDown => simp [PendingOutcome.outcome]

theorem State.resetOutcome_of_not_active (h : (s.engine l).active ≠ some n) : s.resetOutcome l n = .lineDown :=
  if_neg fun hcancelled => h hcancelled.1

theorem State.resetOutcome_failed (s : State) (l : Line) (n : SlotNo) :
    s.resetOutcome l n ≠ .ok ∧ s.resetOutcome l n ≠ .sent := by
  unfold State.resetOutcome
  split <;> decide

theorem State.resetActive_of_none (h : (t.engine l).active = none) : t.resetActive l = t := by
  rw [State.resetActive, h]

theorem State.resetActive_of_active (h : (t.engine l).active = some n) :
    t.resetActive l =
      (t.setEngine l (t.engine l).release).complete n
        (((t.slot n).cancelPending.map PendingOutcome.outcome).getD .lineDown) := by
  rw [State.resetActive, h]
  rfl

/-- The link plays no part in what the completions do. -/
theorem Completed.setLink {ns : List SlotNo} {o : SlotNo → TransactionOutcome} (h : Completed s ns o t) (k : Link) :
    Completed s ns o (t.setLink l k) where
  slot := h.slot
  queue := h.queue
  free := h.free
  station := h.station
  changes := h.changes
  entry := h.entry
  sched := h.sched
  config := h.config
  tick := h.tick

/-- The active slot completes after the queue, with the outcome of its own. -/
theorem Completed.resetActive {ns : List SlotNo} (h : Completed s ns (s.resetOutcome l) t)
    (hactive : (t.engine l).active = (s.engine l).active) (hnew : ∀ n, (s.engine l).active = some n → n ∉ ns) :
    Completed s (ns ++ (s.engine l).active.toList) (s.resetOutcome l) (t.resetActive l) := by
  cases hn : (s.engine l).active with
  | none =>
    rw [State.resetActive_of_none (hactive.trans hn), Option.toList_none, List.append_nil]
    exact h
  | some n =>
    obtain ⟨hok, hsent⟩ := s.resetOutcome_failed l n
    have hmem : n ∉ ns := hnew n hn
    have hreleased : Completed s ns (s.resetOutcome l) (t.setEngine l (t.engine l).release) := h.setEngine l rfl
    rw [State.resetActive_of_active (hactive.trans hn), h.slot_of_not_mem hmem, ← State.resetOutcome_of_active hn]
    exact hreleased.trans (completed_singleton hok hsent) (by simpa using hmem)

/-- In a state where every slot stands in its place the slots of a line complete, each once. -/
theorem completed_lineEnded (hplaces : Places s) : Completed s (s.lineSlots l) (s.resetOutcome l) (s.lineEnded l) := by
  obtain ⟨-, ⟨hqueued, -, honce, -⟩, ⟨hactive, -⟩, -⟩ := hplaces
  have hapart : ∀ n, (s.engine l).active = some n → n ∉ (s.engine l).queue := fun n hn hmem => by
    have hstate := (hqueued l n hmem).1
    rw [(hactive l n hn).1] at hstate
    cases hstate
  have hdown : ∀ n ∈ (s.engine l).queue, s.resetOutcome l n = .lineDown := fun n hn =>
    State.resetOutcome_of_not_active fun h => hapart n h hn
  have hcut : Completed s [] (s.resetOutcome l) ((s.modLink l Link.cut).setEngine l { s.engine l with queue := [] }) :=
    ((Completed.nil s _).setLink (l := l) (s.link l).cut).setEngine l rfl
  have hqueue : Completed s (s.engine l).queue (s.resetOutcome l) ((s.modLink l Link.cut).completeQueue l .lineDown) :=
    hcut.completeAll (by decide) (by decide) hdown (fun _ _ => List.not_mem_nil) (honce l)
  refine hqueue.resetActive ?_ hapart
  rw [State.completeQueue_engine, State.setEngine_engine_same]
  rfl

end

/-- What the completion of the active slot may change. -/
theorem State.resetActive_frame (t : State) (l : Line) :
    t.resetActive l =
      { t with slots := (t.resetActive l).slots, pool := { t.pool with free := (t.resetActive l).pool.free },
               engines := (t.resetActive l).engines, stations := (t.resetActive l).stations,
               scheds := (t.resetActive l).scheds, queue := (t.resetActive l).queue } := by
  cases hn : (t.engine l).active with
  | none => rw [State.resetActive_of_none hn]
  | some n =>
    obtain ⟨a, b, c, d, f, hall⟩ : ∃ a b c d f, t.resetActive l =
        { t.setEngine l (t.engine l).release with
          slots := a, pool := { t.pool with free := b }, stations := c, scheds := d, queue := f } :=
      ⟨_, _, _, _, _, (State.resetActive_of_active hn).trans (State.complete_frame ..)⟩
    rw [hall]
    rfl

/-- What ending the slots of a line may change: slots, the free list, the engines, the line's link, stations, schedulers and
the Completion Queue. -/
theorem State.lineEnded_frame (s : State) (l : Line) :
    s.lineEnded l =
      { s with slots := (s.lineEnded l).slots, pool := { s.pool with free := (s.lineEnded l).pool.free },
               engines := (s.lineEnded l).engines, links := s.links.put l (s.link l).cut,
               stations := (s.lineEnded l).stations, scheds := (s.lineEnded l).scheds,
               queue := (s.lineEnded l).queue } := by
  obtain ⟨a, b, c, d, f, g, hqueue⟩ : ∃ a b c d f g, (s.modLink l Link.cut).completeQueue l .lineDown =
      { s with slots := a, pool := { s.pool with free := b }, engines := c, links := s.links.put l (s.link l).cut,
               stations := d, scheds := f, queue := g } :=
    ⟨_, _, _, _, _, _, State.completeQueue_frame (s.modLink l Link.cut) l .lineDown⟩
  have hactive := State.resetActive_frame ((s.modLink l Link.cut).completeQueue l .lineDown) l
  unfold State.lineEnded
  rw [hqueue] at hactive ⊢
  exact hactive

/-- The engine of another line takes no part. -/
theorem State.lineEnded_engine_ne (s : State) {l k : Line} (hk : l ≠ k) : (s.lineEnded l).engine k = s.engine k := by
  have hqueue : ((s.modLink l Link.cut).completeQueue l .lineDown).engine k = s.engine k := by
    rw [State.completeQueue_engine, State.setEngine_engine_ne _ _ _ hk]
    rfl
  unfold State.lineEnded
  cases hn : (((s.modLink l Link.cut).completeQueue l .lineDown).engine l).active with
  | none => rw [State.resetActive_of_none hn, hqueue]
  | some n => rw [State.resetActive_of_active hn, State.complete_engine, State.setEngine_engine_ne _ _ _ hk, hqueue]

/-- No mode changes while the slots end. -/
theorem State.lineEnded_engine_mode (s : State) (l : Line) : ((s.lineEnded l).engine l).mode = (s.engine l).mode := by
  have hqueue : (((s.modLink l Link.cut).completeQueue l .lineDown).engine l).mode = (s.engine l).mode := by
    rw [State.completeQueue_engine, State.setEngine_engine_same]
    rfl
  unfold State.lineEnded
  cases hn : (((s.modLink l Link.cut).completeQueue l .lineDown).engine l).active with
  | none => rw [State.resetActive_of_none hn, hqueue]
  | some n =>
    rw [State.resetActive_of_active hn, State.complete_engine, State.setEngine_engine_same]
    exact hqueue

/-- Two parts of the Station Table with the same stations and the same change set are the same. -/
theorem State.stationLine_ext {s t : State} {k : Line} (hstation : ∀ a, t.station k a = s.station k a)
    (hchanges : (t.stationLine k).changes = (s.stationLine k).changes) : t.stationLine k = s.stationLine k := by
  have hrecords : (t.stationLine k).records = (s.stationLine k).records := Table.ext fun i => by
    have hindex : stationIndex ⟨i.val + 1, by omega⟩ = some i := (stationIndex_eq_some_iff _ i).2 rfl
    have hsame := hstation ⟨i.val + 1, by omega⟩
    simpa only [State.station, hindex] using hsame
  exact congrArg₂ StationLine.mk hrecords hchanges

/-- Two schedulers with the same entries that agree in all else are the same. -/
theorem State.sched_ext {s t : State} {k : Line} (hentry : ∀ e, t.entry k e = s.entry k e)
    (hsched : t.sched k = { s.sched k with entries := (t.sched k).entries }) : t.sched k = s.sched k := by
  have hentries : (t.sched k).entries = (s.sched k).entries := Table.ext hentry
  rw [hsched, hentries]

section
variable {s t : State} {l k : Line} {ns : List SlotNo} {o : SlotNo → TransactionOutcome}

/-- The completion of slots of one line leaves the stations of every other line. -/
theorem Completed.stationLine_ne (h : Completed s ns o t) (hline : ∀ n ∈ ns, (s.slot n).line = l) (hk : k ≠ l) :
    t.stationLine k = s.stationLine k :=
  State.stationLine_ext (fun a => (h.station k a).trans (if_neg fun hu => hk ((unsyncs_of_line hline k a).1 hu).1))
    (h.changes k)

/-- The completion of slots of one line leaves the scheduler of every other line. -/
theorem Completed.sched_ne (h : Completed s ns o t) (hline : ∀ n ∈ ns, (s.slot n).line = l) (hk : k ≠ l) :
    t.sched k = s.sched k :=
  State.sched_ext (fun e => (h.entry k e).trans (if_neg fun hp => hk ((endsPollOf_of_line hline k e).1 hp).1)) (h.sched k)

/-- A cleared entry does not show whether its poll has ended (R119). -/
theorem Completed.entry_cleared (h : Completed s ns o t) (e : EntryNo) : (t.entry k e).cleared = (s.entry k e).cleared := by
  rw [h.entry]
  split <;> rfl

end

/-- The slots that LINE_RESET completes are the line's own. -/
theorem lineSlots_line {s : State} (hplaces : Places s) (l : Line) : ∀ n ∈ s.lineSlots l, (s.slot n).line = l := by
  obtain ⟨-, ⟨hqueued, -⟩, ⟨hactive, -⟩, -⟩ := hplaces
  intro n hn
  obtain hqueue | hn := List.mem_append.1 hn
  · exact (hqueued l n hqueue).2
  · exact (hactive l n (Option.mem_toList.1 hn)).2

theorem mem_lineSlots (s : State) (l : Line) (n : SlotNo) :
    n ∈ s.lineSlots l ↔ n ∈ (s.engine l).queue ∨ (s.engine l).active = some n := by
  rw [State.lineSlots, List.mem_append, Option.mem_toList]

/-- Everything LINE_RESET does once the slots of the line have completed (R62). -/
theorem State.resetLine_eq (s : State) (l : Line) :
    s.resetLine l =
      { s with slots := (s.lineEnded l).slots, pool := { s.pool with free := (s.lineEnded l).pool.free },
               engines := (s.lineEnded l).engines.put l ((s.lineEnded l).engine l).cleared,
               links := s.links.put l (s.link l).cut, stations := (s.lineEnded l).stations.put l StationLine.reset,
               scheds := (s.lineEnded l).scheds.put l ((s.lineEnded l).sched l).lineReset,
               events := { s.events with stuck := s.events.stuck.put l false, overrun := s.events.overrun.put l false },
               queue := (s.lineEnded l).queue } := by
  obtain ⟨a, b, c, d, f, g, hall⟩ : ∃ a b c d f g, s.lineEnded l =
      { s with slots := a, pool := { s.pool with free := b }, engines := c, links := s.links.put l (s.link l).cut,
               stations := d, scheds := f, queue := g } := ⟨_, _, _, _, _, _, s.lineEnded_frame l⟩
  have hreset : s.resetLine l = { (((s.lineEnded l).setEngine l ((s.lineEnded l).engine l).cleared).setStationLine l
      StationLine.reset).setSched l ((s.lineEnded l).sched l).lineReset with
        events := { (s.lineEnded l).events with stuck := (s.lineEnded l).events.stuck.put l false,
                                                overrun := (s.lineEnded l).events.overrun.put l false } } := rfl
  rw [hreset, hall]
  rfl

/-- An engine that LINE_RESET clears is OFF unless its line is ABSENT (R62). -/
theorem Engine.cleared_of_present {e : Engine} (h : e.mode ≠ .absent) :
    e.cleared = { Engine.reset true with config := e.config } := by
  unfold Engine.cleared
  rw [if_neg h]
  rfl

section
variable {s : State} {l : Line}

theorem exec_lineReset (hc : Collecting s .lineReset []) (hpresent : (s.engine l).mode ≠ .absent) :
    exec (.lineReset (byteOf l.val)) s =
      .next (State.drive { s.resetLine l with port := responding s.port .done [] }) := by
  refine exec_of_answer hc rfl (checked_lineByte l .lineReset) fun p => ?_
  refine (State.ifPresent_of_present (s := s.withPort p) hpresent _).trans (congrArg State.postDone ?_)
  exact s.resetLine_withPort p l

/-- Of the engines LINE_RESET writes the line's own, which keeps its configuration (R62). -/
theorem State.lineEnded_engines (h : Completed s (s.lineSlots l) (s.resetOutcome l) (s.lineEnded l))
    (hpresent : (s.engine l).mode ≠ .absent) :
    (s.lineEnded l).engines.put l ((s.lineEnded l).engine l).cleared =
      s.engines.put l { Engine.reset true with config := (s.engine l).config } := by
  have hmode : ((s.lineEnded l).engine l).mode ≠ .absent := s.lineEnded_engine_mode l ▸ hpresent
  rw [Engine.cleared_of_present hmode, h.config]
  refine Table.ext fun k => ?_
  rw [Table.look_put, Table.look_put]
  split
  · rfl
  · next hk => exact s.lineEnded_engine_ne hk

/-- Of the Station Table LINE_RESET writes the line's part alone (R101). -/
theorem State.lineEnded_stations (h : Completed s (s.lineSlots l) (s.resetOutcome l) (s.lineEnded l))
    (hline : ∀ n ∈ s.lineSlots l, (s.slot n).line = l) :
    (s.lineEnded l).stations.put l StationLine.reset = s.stations.put l StationLine.reset := by
  refine Table.ext fun k => ?_
  rw [Table.look_put, Table.look_put]
  split
  · rfl
  · next hk => exact h.stationLine_ne hline (Ne.symm hk)

end

/-- Settles O18: the slots of the line complete where they stand, and then the line's part of each block is reset. -/
theorem lineResetClearsTheLine : Obligations.LineResetClearsTheLine := by
  intro s l hplaces hc hpresent ended
  have h : Completed s (s.lineSlots l) (s.resetOutcome l) (s.lineEnded l) := completed_lineEnded hplaces
  have hline := lineSlots_line hplaces l
  have hended (n : SlotNo) : n ∈ s.lineSlots l ↔ ended n := mem_lineSlots s l n
  have hexec := exec_lineReset hc hpresent
  rw [State.resetLine_eq] at hexec
  have hsched (k : Line) : ((s.lineEnded l).scheds.put l ((s.lineEnded l).sched l).lineReset).look k =
      if l = k then ((s.lineEnded l).sched l).lineReset else (s.lineEnded l).sched k := Table.look_put ..
  refine ⟨_, hexec, fun n hn horigin => ?_, fun n hn horigin => ?_, fun n hn => ?_, h.queue, h.free,
    State.lineEnded_engines h hpresent, rfl, State.lineEnded_stations h hline, fun k hk => ?_, ?_⟩
  · refine (h.slot n).trans ?_
    rw [if_pos ((hended n).2 hn), State.endedSlot, horigin, State.resetOutcome, apply_ite some]
  · refine (h.slot n).trans ?_
    rw [if_pos ((hended n).2 hn), State.endedSlot, horigin]
  · exact h.slot_of_not_mem (mt (hended n).1 hn)
  · exact (hsched k).trans ((if_neg (Ne.symm hk)).trans (h.sched_ne hline hk))
  · have hl := (hsched l).trans (if_pos rfl)
    have hperiod : ((s.lineEnded l).sched l).period = (s.sched l).period := by rw [h.sched l]
    exact ⟨congrArg Scheduler.run hl, (congrArg Scheduler.period hl).trans hperiod, congrArg Scheduler.cycleTimer hl,
      congrArg Scheduler.cycleNumber hl, congrArg Scheduler.due hl, congrArg Scheduler.deferrals hl,
      fun e => (congrArg (fun p : Scheduler => p.entries.look e) hl).trans
        ((Table.look_make ..).trans (h.entry_cleared e)), rfl, rfl⟩

end Sys2Proof.Machine
end

/-! # The Data Port's transfers (chapter 9)

SUPPORT. Each move of a byte said once: whether it is the last, what ends with it, and whether DMA_END rises. -/

/-! ### The ends of a transfer (R165, R169, R170, R171) -/

section
namespace Sys2Proof.Machine

/-- DMA_END is raised when a condition holds (R174). -/
def State.raiseDmaEndIf (s : State) (c : Bool) : State :=
  { s with events := { s.events with dmaEnd := s.events.dmaEnd || c } }

theorem State.raiseDmaEndIf_true (s : State) : s.raiseDmaEndIf true = s.raiseDmaEnd := by
  rw [State.raiseDmaEndIf, Bool.or_true, State.raiseDmaEnd]

theorem State.raiseDmaEndIf_eq_ite (s : State) (c : Bool) : s.raiseDmaEndIf c = if c then s.raiseDmaEnd else s := by
  cases c with
  | true => exact s.raiseDmaEndIf_true
  | false => rw [State.raiseDmaEndIf, Bool.or_false, if_neg Bool.false_ne_true]

/-- An OUTFLOW that owns the port hands it to an INTAKE that waits (R165, R169). -/
theorem DataPort.endOutflow_of_owner {d : DataPort} (h : d.owner = .outflow) :
    d.endOutflow =
      { d with outflow := none, owner := if d.intake = none then .none else .intake, moved := 0, dmaUsed := false,
               halted := false } := by
  rw [DataPort.endOutflow, if_pos h]
  unfold DataPort.grant
  cases d.intake <;> rfl

/-- A byte short of the owner's total is the last one when it makes the total. -/
theorem DataPort.complete_movedByte {d : DataPort} {total : Nat} (dma : Bool) (htotal : d.total = total)
    (h : d.moved < total) : (d.movedByte dma).complete = true ↔ d.moved + 1 = total := by
  subst htotal
  exact decide_eq_true_iff.trans ⟨fun hle => Nat.le_antisymm h hle, fun heq => heq.ge⟩

theorem DataPort.total_of_intake {d : DataPort} {q : IntakeRequest} (howner : d.owner = .intake)
    (hq : d.intake = some q) : d.total = q.total := by
  rw [DataPort.total, howner, hq]
  rfl

theorem DataPort.total_of_outflow {d : DataPort} {q : OutflowRequest} (howner : d.owner = .outflow)
    (hq : d.outflow = some q) : d.total = q.total := by
  rw [DataPort.total, howner, hq]
  rfl

end Sys2Proof.Machine
end

/-! ### A byte moved in (R27, R28, R45, R50, R51, R143, R166, R168 to R170) -/

section
namespace Sys2Proof.Machine

/-- The state once an INTAKE owner has taken a byte, before what may end with it. -/
def State.byteTaken (s : State) (b : Byte) (dma : Bool) : State :=
  (s.putChainByte s.loadingChain s.data.moved b).modData fun d => d.movedByte dma

/-- Everything a byte moved in does: the last byte completes the intake, and a terminal count before it ends the intake
short. -/
theorem State.moveIn_eq (s : State) (b : Byte) (dma tc : Bool) :
    s.moveIn b dma tc =
      let t := s.byteTaken b dma
      if t.data.complete then (t.raiseDmaEndIf (tc || t.data.dmaUsed)).intakeComplete
      else if tc then t.raiseDmaEnd.intakeAbandoned .shortPayload
      else t := by
  cases tc with
  | true =>
    dsimp only
    rw [Bool.true_or, State.raiseDmaEndIf_true]
    rfl
  | false =>
    dsimp only
    rw [Bool.false_or, State.raiseDmaEndIf_eq_ite]
    rfl

/-- A byte taken writes the memory and the Data Port alone. -/
theorem State.byteTaken_frame (s : State) (b : Byte) (dma : Bool) :
    s.byteTaken b dma = { s with pool := (s.byteTaken b dma).pool, data := s.data.movedByte dma } := by
  unfold State.byteTaken
  rw [State.putChainByte_eq]
  rfl

theorem State.byteTaken_data (s : State) (b : Byte) (dma : Bool) : (s.byteTaken b dma).data = s.data.movedByte dma :=
  congrArg State.data (s.byteTaken_frame b dma)

section
variable {s : State} {dma : Bool}

/-- The last byte completes the intake; DMA_END rises if the transfer used DMA (R27, R143, R169). -/
theorem State.moveIn_of_last (h : (s.data.movedByte dma).complete = true) (b : Byte) (tc : Bool) :
    s.moveIn b dma tc =
      ((s.byteTaken b dma).raiseDmaEndIf (tc || (s.data.dmaUsed || dma))).intakeComplete := by
  rw [← State.byteTaken_data s b] at h
  refine (s.moveIn_eq b dma tc).trans ((if_pos h).trans ?_)
  rw [State.byteTaken_data]
  rfl

/-- A terminal count before the last byte ends the intake short (R28, R143, R170). -/
theorem State.moveIn_of_cut (h : ¬ (s.data.movedByte dma).complete = true) (b : Byte) :
    s.moveIn b dma true = (s.byteTaken b dma).raiseDmaEnd.intakeAbandoned .shortPayload := by
  rw [← State.byteTaken_data s b] at h
  exact (s.moveIn_eq b dma true).trans (if_neg h)

/-- Any other byte is taken and no more (R169). -/
theorem State.moveIn_of_more (h : ¬ (s.data.movedByte dma).complete = true) (b : Byte) :
    s.moveIn b dma false = s.byteTaken b dma := by
  rw [← State.byteTaken_data s b] at h
  exact (s.moveIn_eq b dma false).trans (if_neg h)

end

section
variable {s : State} {n : SlotNo} (hn : s.port.loading = some n)
include hn

theorem State.loadingChain_of_loading : s.loadingChain = (s.slot n).requestChain := by rw [State.loadingChain, hn]

theorem State.byteTaken_of_loading (b : Byte) (dma : Bool) :
    s.byteTaken b dma =
      { s.putChainByte (s.slot n).requestChain s.data.moved b with data := s.data.movedByte dma } := by
  rw [State.byteTaken, State.loadingChain_of_loading hn, State.putChainByte_eq]
  rfl

theorem State.intakeComplete_of_loading :
    s.intakeComplete =
      { s.joinTail n with port := responding s.port .accepted [byteOf n.val], data := s.data.endIntake } := by
  rw [State.intakeComplete, hn]
  rfl

theorem State.intakeAbandoned_of_loading (code : ResponseCode) :
    s.intakeAbandoned code =
      { s.freeSlot n with port := responding s.port code [], data := s.data.endIntake } := by
  rw [State.intakeAbandoned, hn]
  rfl

end

section
variable (s : State)

theorem State.intakeComplete_mem : s.intakeComplete.pool.mem = s.pool.mem := by
  unfold State.intakeComplete
  split <;> rfl

theorem State.intakeAbandoned_mem (code : ResponseCode) : (s.intakeAbandoned code).pool.mem = s.pool.mem := by
  unfold State.intakeAbandoned
  split <;> rfl

/-- Whatever ends with a byte moved in, the memory holds the byte and is otherwise as it was. -/
theorem State.moveIn_mem (b : Byte) (dma tc : Bool) :
    (s.moveIn b dma tc).pool.mem = (s.putChainByte s.loadingChain s.data.moved b).pool.mem := by
  rw [State.moveIn_eq]
  dsimp only
  split
  · exact State.intakeComplete_mem _
  · split
    · exact State.intakeAbandoned_mem _ _
    · rfl

end

/-- A terminal count is sampled with an acknowledge alone (R168). -/
theorem terminal_count_sampled {viaDma tc : Bool} (h : viaDma = false → tc = false) : (viaDma && tc) = tc := by
  cases viaDma with
  | true => rfl
  | false => exact (h rfl).symm

/-- Out of reset a write to DATA or a write acknowledge is a byte for the Data Port; a terminal count comes with an
acknowledge alone (R166, R168). -/
theorem exec_byteIn {s : State} (hs : s.inReset = false) (b : Byte) (viaDma tc : Bool) :
    exec (if viaDma then .dmaWriteAck b tc else .dataWrite b) s =
      .next (s.dataIn b viaDma (viaDma && tc)).drive := by
  cases viaDma with
  | true => exact happening_of_running hs (State.dataIn · b true tc)
  | false => exact happening_of_running hs (State.dataIn · b false false)

/-- Settles O26: the dropped byte, then the last byte, the terminal count before it and any other byte; and the memory
after each of them. -/
theorem intakeMovesAByteIn : Obligations.IntakeMovesAByteIn := by
  refine ⟨fun s b viaDma tc hs htc => ⟨fun howner => ?_, fun n q howner hq hn hmore => ?_⟩,
    fun s t b viaDma tc n a hs hwf howner _ hn ht => ?_⟩
  · rw [exec_byteIn hs, State.dataIn, if_neg howner]
    rfl
  · intro moved released ended
    have hsampled : (viaDma && tc) = tc := terminal_count_sampled htc
    have hlast := DataPort.complete_movedByte viaDma (DataPort.total_of_intake howner hq) hmore
    have hreleased : (s.data.movedByte viaDma).endIntake = released := (DataPort.endIntake_eq _).trans (if_pos howner)
    have htaken : s.byteTaken b viaDma = moved := State.byteTaken_of_loading hn b viaDma
    have hframe : moved = { s with pool := moved.pool, data := s.data.movedByte viaDma } :=
      htaken ▸ s.byteTaken_frame b viaDma
    have hport : moved.port.loading = some n := (congrArg (·.port.loading) hframe).trans hn
    rw [exec_byteIn hs, hsampled, State.dataIn, if_pos howner]
    by_cases hend : s.data.moved + 1 = q.total
    · have hcompleted := State.intakeComplete_of_loading
        (s := moved.raiseDmaEndIf (tc || (s.data.dmaUsed || viaDma))) hport
      rw [if_pos hend, State.moveIn_of_last (hlast.2 hend), htaken, hcompleted, Bool.or_assoc, hframe]
      unfold ended
      rw [← hreleased]
      rfl
    · have hshort := mt hlast.1 hend
      rw [if_neg hend]
      cases tc with
      | true =>
        have habandoned := State.intakeAbandoned_of_loading (s := moved.raiseDmaEndIf true) hport .shortPayload
        rw [if_pos rfl, State.moveIn_of_cut hshort, htaken, ← State.raiseDmaEndIf_true, habandoned, hframe]
        unfold ended
        rw [← hreleased]
        rfl
      | false => rw [if_neg Bool.false_ne_true, State.moveIn_of_more hshort, htaken]
  · rw [exec_byteIn hs, State.dataIn, if_pos howner] at ht
    cases ht
    have hmem := s.moveIn_mem b viaDma (viaDma && tc)
    rw [State.loadingChain_of_loading hn] at hmem
    exact (congrArg (Memory.read · a) hmem).trans (s.putChainByte_read _ _ b hwf a)

end Sys2Proof.Machine
end

/-! ### A byte moved out (R129, R166, R168, R169, R171) -/

section
namespace Sys2Proof.Machine

/-- Everything a byte moved out does: the last byte retires the record, and a terminal count before it halts the DMA. -/
theorem State.moveOut_eq (s : State) (dma tc : Bool) :
    s.moveOut dma tc =
      let t := s.modData fun d => d.movedByte dma
      if t.data.complete then (t.raiseDmaEndIf (tc || t.data.dmaUsed)).outflowComplete
      else if tc then t.raiseDmaEnd.modData fun d => { d with halted := true, dmaUsed := false }
      else t := by
  cases tc with
  | true =>
    dsimp only
    rw [Bool.true_or, State.raiseDmaEndIf_true]
    rfl
  | false =>
    dsimp only
    rw [Bool.false_or, State.raiseDmaEndIf_eq_ite]
    rfl

section
variable {s : State} {dma : Bool}

/-- The last byte retires the head record; DMA_END rises if the transfer used DMA (R129, R169). -/
theorem State.moveOut_of_last (h : (s.data.movedByte dma).complete = true) (tc : Bool) :
    s.moveOut dma tc =
      ((s.modData fun d => d.movedByte dma).raiseDmaEndIf (tc || (s.data.dmaUsed || dma))).outflowComplete :=
  (s.moveOut_eq dma tc).trans (if_pos h)

/-- A terminal count before the last byte halts the DMA (R171). -/
theorem State.moveOut_of_cut (h : ¬ (s.data.movedByte dma).complete = true) :
    s.moveOut dma true =
      (s.modData fun d => { d.movedByte dma with halted := true, dmaUsed := false }).raiseDmaEnd :=
  (s.moveOut_eq dma true).trans (if_neg h)

/-- Any other byte is counted and no more (R169). -/
theorem State.moveOut_of_more (h : ¬ (s.data.movedByte dma).complete = true) :
    s.moveOut dma false = s.modData fun d => d.movedByte dma :=
  (s.moveOut_eq dma false).trans (if_neg h)

end

/-- The retirement of the head record looks neither at the Data Port nor at the Event Unit. -/
theorem State.retireHead_with (s : State) (d : DataPort) (e : EventUnit) :
    ({ s with data := d, events := e } : State).retireHead = { s.retireHead with data := d, events := e } := by
  cases hrecords : s.queue.records with
  | nil =>
    unfold State.retireHead
    rw [hrecords]
  | cons r rest =>
    have hsame : ({ s with data := d, events := e } : State).queue.records = r :: rest := hrecords
    rw [State.retireHead_of_cons hsame, State.retireHead_of_cons hrecords]
    rfl

/-- The end of an outflow, of a state whose Data Port and Event Unit have moved on since. -/
theorem State.outflowComplete_with (s : State) (d : DataPort) (e : EventUnit) :
    ({ s with data := d, events := e } : State).outflowComplete =
      { s.retireHead with data := d.endOutflow, events := e } :=
  congrArg (State.modData · DataPort.endOutflow) (s.retireHead_with d e)

theorem State.outflowByte_of_request {s : State} {q : OutflowRequest} (hq : s.data.outflow = some q) :
    s.outflowByte = s.chainByte (s.slot q.slot).replyChain s.data.moved := by
  rw [State.outflowByte, hq]

/-- Out of reset a read of DATA or a read acknowledge drives the byte of the Data Port; a terminal count comes with an
acknowledge alone (R166, R168). -/
theorem exec_byteOut {s : State} (hs : s.inReset = false) (viaDma tc : Bool) :
    exec (if viaDma then .dmaReadAck tc else .dataRead) s =
      .next (State.drive { (s.dataOut viaDma (viaDma && tc)).2 with
        dataBus := (s.dataOut viaDma (viaDma && tc)).1 }) := by
  cases viaDma with
  | true => exact readHappening_of_running hs (State.dataOut · true tc)
  | false => exact readHappening_of_running hs (State.dataOut · false false)

/-- Settles O27: the read that no OUTFLOW owner answers, then the last byte, the terminal count before it and any other
byte. -/
theorem outflowMovesAByteOut : Obligations.OutflowMovesAByteOut := by
  intro s viaDma tc hs htc c
  refine ⟨fun howner => ?_, fun q howner hq hmore => ?_⟩
  · rw [exec_byteOut hs, State.dataOut, if_neg howner]
  · intro byte moved released
    have hsampled : (viaDma && tc) = tc := terminal_count_sampled htc
    have hlast := DataPort.complete_movedByte viaDma (DataPort.total_of_outflow howner hq) hmore
    have hreleased : moved.endOutflow = released := DataPort.endOutflow_of_owner howner
    rw [exec_byteOut hs, hsampled, State.dataOut, if_pos howner, State.outflowByte_of_request hq]
    by_cases hend : s.data.moved + 1 = q.total
    · have hcompleted := s.outflowComplete_with moved
        { s.events with dmaEnd := s.events.dmaEnd || (tc || (s.data.dmaUsed || viaDma)) }
      rw [if_pos hend, State.moveOut_of_last (hlast.2 hend), Bool.or_assoc, ← hreleased]
      exact congrArg (fun t : State => Host.Outcome.next (State.drive { t with dataBus := byte })) hcompleted
    · have hshort := mt hlast.1 hend
      rw [if_neg hend]
      cases tc with
      | true =>
        rw [if_pos rfl, State.moveOut_of_cut hshort]
        rfl
      | false =>
        rw [if_neg Bool.false_ne_true, State.moveOut_of_more hshort]
        rfl

end Sys2Proof.Machine
end

/-! ### The Event Unit's locations: CAUSE, EVENT MASK and the state values of CONTROL (R167, R173, R176 to R178, R180,
R182) -/

section
namespace Sys2Proof.Machine

/-- A write at an offset whose Write column says ignored changes nothing, whether or not the reset input is active (R182). -/
theorem exec_ignoredWrite {offset : Fin 8} (h : ignoredOffset offset = true) (s : State) (b : Byte) :
    exec (.ignoredWrite offset b) s = .next s := if_pos h

/-- Bits 0 to 5 of the byte written to EVENT MASK become the enables (R176). -/
theorem State.writeMask_getLsbD (s : State) (b : Byte) (n : Nat) :
    (s.writeMask b).events.mask.getLsbD n = (decide (n < 6) && b.getLsbD n) := by
  simp [State.writeMask]

/-- A read of EVENT MASK returns the enables, with bits 6 and 7 at 0 (R176). -/
theorem State.maskByte_getLsbD (s : State) (n : Nat) : s.maskByte.getLsbD n = s.events.mask.getLsbD n := by
  have hbyte : s.events.mask.getLsbD n = true → n < 8 := fun h => (BitVec.lt_of_getLsbD h).trans (by decide)
  rw [State.maskByte, BitVec.getLsbD_setWidth]
  simpa using hbyte

/-- Out of reset, offset 5 reads as the byte of EVENT MASK and the read changes nothing (R182). -/
theorem State.readAt_eventMask {s : State} (hs : s.inReset = false) : s.readAt 5 = (s.maskByte, s) := by
  simp [State.readAt, hs]

/-- Settles O29: each of the three writes is its effect with the outputs evaluated after it, and the fourth has none. -/
theorem windowWritesSetTheirBits : Obligations.WindowWritesSetTheirBits := by
  intro s b hs
  refine ⟨happening_of_running hs (State.writeBusEnable · b), happening_of_running hs (State.writeResultDma · b),
    ⟨(s.writeMask b).drive, happening_of_running hs (State.writeMask · b), fun n hn => ?enables, fun n => ?byteRead, rfl⟩,
    fun offset hoffset => exec_ignoredWrite (?ignored) s b⟩
  case enables =>
    have hbit := s.writeMask_getLsbD b n
    rwa [decide_eq_true hn, Bool.true_and] at hbit
  case byteRead =>
    have hrunning : (s.writeMask b).drive.inReset = false := hs
    rw [State.readAt_eventMask hrunning, State.maskByte_getLsbD]
    exact s.writeMask_getLsbD b n
  case ignored => obtain rfl | rfl | rfl | rfl := hoffset <;> rfl

/-- The items of a per-line kind, as the lines in order. -/
theorem map_lineItems {α : Type} (k : EventKind) (f : EventItem → α) :
    (lineItems k).map f = (List.finRange 4).map fun l => f ⟨k, l⟩ := rfl

/-- An item in the search of CAUSE: whether it counts, its byte, and the Event Unit once it has been reported. -/
def State.candidate (s : State) (i : EventItem) : Bool × Byte × EventUnit :=
  (s.itemCounts i, i.byte, s.events.report i)

/-- The first candidate that counts is the one of the item that a read of CAUSE reports (R177). -/
theorem State.find?_candidates (s : State) :
    ((allItems.map s.candidate).find? fun x => x.1) = s.causeItem.map s.candidate := List.find?_map

/-- A read of CAUSE by the candidates: the byte and the Event Unit of the first that counts (R177, R178). -/
theorem State.readCause_eq (s : State) :
    s.readCause =
      match (allItems.map s.candidate).find? fun x => x.1 with
      | none => (0, s)
      | some (_, b, v) => (b, { s with events := v }) := by
  rw [s.find?_candidates]
  unfold State.readCause
  cases s.causeItem <;> rfl

/-! The candidate of each kind, per section 10.1's condition, section 11.6's code and R178's clearing. -/

section
variable (s : State) (l : Line)

theorem State.candidate_lineStuck :
    s.candidate ⟨.lineStuck, l⟩ =
      (s.events.mask.getLsbD 0 && s.events.stuck.look l, byteOf (0x10 + l.val),
        { s.events with stuck := s.events.stuck.put l false }) :=
  congrArg (·, _) (Bool.and_comm _ _)

theorem State.candidate_stationChange :
    s.candidate ⟨.stationChange, l⟩ =
      (s.events.mask.getLsbD 1 && decide ((s.stationLine l).changes ≠ 0), byteOf (0x20 + l.val), s.events) := by
  simp only [ne_eq, decide_not, ← beq_eq_decide]
  exact congrArg (·, _) (Bool.and_comm _ _)

theorem State.candidate_cycleOverrun :
    s.candidate ⟨.cycleOverrun, l⟩ =
      (s.events.mask.getLsbD 2 && s.events.overrun.look l, byteOf (0x30 + l.val),
        { s.events with overrun := s.events.overrun.put l false }) :=
  congrArg (·, _) (Bool.and_comm _ _)

theorem State.candidate_completion :
    s.candidate ⟨.completion, 0⟩ =
      (s.events.mask.getLsbD 3 && decide (s.queue.trigger ≤ s.queue.records.length), 0x40, s.events) :=
  congrArg (·, _) (Bool.and_comm _ _)

theorem State.candidate_dmaEnd :
    s.candidate ⟨.dmaEnd, 0⟩ =
      (s.events.mask.getLsbD 4 && s.events.dmaEnd, 0x50, { s.events with dmaEnd := false }) :=
  congrArg (·, _) (Bool.and_comm _ _)

theorem State.candidate_response :
    s.candidate ⟨.response, 0⟩ =
      (s.events.mask.getLsbD 5 && decide (s.port.state = .respond), 0x60, s.events) := by
  rw [← beq_eq_decide]
  exact congrArg (·, _) (Bool.and_comm _ _)

end

/-- Settles O30: the statement's list is the candidates of the 15 items in the order of section 10.1. -/
theorem causeReportsTheHighestItem : Obligations.CauseReportsTheHighestItem := by
  refine ⟨exec_ignoredWrite rfl, fun s hs => ?_⟩
  intro u candidates
  have hcandidates : candidates = allItems.map s.candidate := by
    simp only [allItems, List.map_append, List.map_cons, List.map_nil, map_lineItems, State.candidate_lineStuck,
      State.candidate_stationChange, State.candidate_cycleOverrun, State.candidate_completion, State.candidate_dmaEnd,
      State.candidate_response]
    rfl
  have hread : exec .causeRead s = .next (State.drive { s.readCause.2 with dataBus := s.readCause.1 }) :=
    readHappening_of_running hs State.readCause
  rw [hread, State.readCause_eq, ← hcandidates]
  cases candidates.find? fun x => x.1 <;> rfl

end Sys2Proof.Machine
end

/-! # The resets, the reset input, the tick, and the happenings of a write to CONTROL

SUPPORT. What each reset writes block by block; what a command does while the reset input is active; the tick; the five
happenings of a write to CONTROL as effects, with what commutes of them exactly and what only up to the order of the free
list. -/

/-! ### The resets, the reset input and the tick (R185, R186, R107) -/

section
namespace Sys2Proof.Machine

open Host (Outcome)

/-! #### The release of the reset input (R185) -/

section
variable (s : State) (straps : BitVec 4)

theorem State.releaseReset_slot (n : SlotNo) : (s.releaseReset straps).slot n = Slot.cleared := Table.look_fill ..

theorem State.releaseReset_engine (l : Line) : (s.releaseReset straps).engine l = Engine.reset (straps.getLsb l) :=
  Table.look_make ..

theorem State.releaseReset_link (l : Line) : (s.releaseReset straps).link l = Link.reset := Table.look_fill ..

theorem State.releaseReset_stationLine (l : Line) : (s.releaseReset straps).stationLine l = StationLine.reset :=
  Table.look_fill ..

theorem State.releaseReset_sched (l : Line) : (s.releaseReset straps).sched l = Scheduler.reset := Table.look_fill ..

end

theorem StationLine.reset_look (i : Fin 31) : StationLine.reset.records.look i = Station.reset := Table.look_fill ..

theorem Scheduler.reset_look (e : EntryNo) : Scheduler.reset.entries.look e = PollEntry.reset := Table.look_fill ..

/-- Settles O3: the release writes every block's table of reset values. -/
theorem hardwareResetSetsEveryBlock : Obligations.HardwareResetSetsEveryBlock := by
  intro straps s
  refine ⟨s.releaseReset straps, rfl, rfl, rfl, rfl, rfl, rfl, rfl, s.releaseReset_slot straps, fun _ => rfl, rfl, rfl,
    rfl, s.releaseReset_engine straps, s.releaseReset_link straps, fun l => ?stations, fun l => ?scheds, rfl, rfl, rfl,
    fun l => ⟨Table.look_fill .., Table.look_fill ..⟩, rfl, rfl, rfl, rfl, rfl,
    fun l => ⟨Table.look_fill .., Table.look_fill ..⟩⟩
  case stations =>
    rw [State.releaseReset_stationLine]
    exact ⟨rfl, StationLine.reset_look⟩
  case scheds =>
    unfold State.entry
    rw [State.releaseReset_sched]
    exact ⟨rfl, rfl, rfl, rfl, rfl, rfl, Scheduler.reset_look⟩

/-! #### The soft reset (R185) -/

section
variable (s : State)

theorem State.softReset_slot (n : SlotNo) : s.softReset.slot n = Slot.cleared := Table.look_fill ..

theorem State.softReset_engine (l : Line) : s.softReset.engine l = (s.engine l).cleared := Table.look_make ..

theorem State.softReset_link (l : Line) : s.softReset.link l = s.linkSoftReset l := Table.look_make ..

theorem State.softReset_stationLine (l : Line) : s.softReset.stationLine l = StationLine.reset := Table.look_fill ..

theorem State.softReset_sched (l : Line) : s.softReset.sched l = (s.sched l).softReset := Table.look_make ..

theorem State.softReset_entry (l : Line) (e : EntryNo) : s.softReset.entry l e = (s.entry l e).cleared := by
  rw [State.entry, State.softReset_sched]
  exact Table.look_make ..

end

/-- Settles O4: the soft reset block by block, with the outputs evaluated after it. -/
theorem softResetClearsAndKeeps : Obligations.SoftResetClearsAndKeeps := by
  intro s hs
  refine ⟨s.softReset.drive, happening_of_running hs State.softReset, s.softReset_slot, rfl, s.softReset_engine,
    s.softReset_link, fun l => ?stations, fun l => ?scheds, rfl, rfl, rfl,
    fun l => ⟨Table.look_fill .., Table.look_fill ..⟩, rfl, rfl, rfl, hs, rfl, rfl, rfl, rfl⟩
  case stations =>
    rw [State.drive_stationLine', State.softReset_stationLine]
    exact ⟨rfl, StationLine.reset_look⟩
  case scheds =>
    rw [State.drive_sched', State.softReset_sched]
    exact ⟨rfl, rfl, rfl, rfl, rfl, rfl, s.softReset_entry l⟩

/-! #### While the reset input is active (R185) -/

theorem State.enterReset_eq (s : State) : s.enterReset = { s with inReset := true, pins := Pins.reset } := by
  rw [State.enterReset, State.drive, State.drivenPins_of_inReset rfl]

/-- What the data bus carries after a command that is not a reset, while the reset input is active: a read drives 0. -/
def heldBus (c : Instr) (bus : Byte) : Byte :=
  match c with
  | .responseRead | .resultRead | .dataRead | .dmaReadAck _ | .causeRead | .tickLowRead => 0
  | _ => bus

/-- Every command but the two of the reset input itself leaves the part as it is while the input is active. -/
theorem exec_of_inReset {c : Instr} {s : State} (hs : s.inReset = true) (hactive : c ≠ .resetInputActive)
    (hrelease : ∀ straps, c ≠ .hardwareReset straps) : exec c s = .next { s with dataBus := heldBus c s.dataBus } := by
  cases c with
  | hardwareReset straps => exact absurd rfl (hrelease straps)
  | resetInputActive => exact absurd rfl hactive
  | responseRead | resultRead | dataRead | dmaReadAck | causeRead | tickLowRead =>
    dsimp only [exec]
    exact readHappening_of_inReset hs _
  | ignoredWrite offset b =>
    change execIgnoredWrite offset b s = .next s
    unfold execIgnoredWrite
    split
    · rfl
    · exact happening_of_inReset hs _
  | _ =>
    dsimp only [exec]
    exact happening_of_inReset hs _

/-- Settles O5: the outputs at the entry, every command, and every access at an offset. -/
theorem resetInputHoldsThePart : Obligations.ResetInputHoldsThePart := by
  refine ⟨fun s => congrArg Outcome.next s.enterReset_eq, fun c s hs hactive hrelease => ?_, fun s offset hs =>
    ⟨State.readAt_of_inReset hs offset, State.writeAt_of_inReset hs offset⟩⟩
  rw [exec_of_inReset hs hactive hrelease]
  rfl

/-! #### The tick and its latch (R186, R107) -/

theorem Scheduler.ticked_of_stopped {p : Scheduler} (h : p.run = .stopped) : p.ticked = p := by
  simp [Scheduler.ticked, h]

theorem Scheduler.ticked_of_running {p : Scheduler} (h : p.run = .running) (hbelow : p.cycleTimer < 65535) :
    p.ticked = { p with cycleTimer := p.cycleTimer + 1 } := by
  rw [Scheduler.ticked, if_pos h, Nat.min_eq_right hbelow]

theorem State.advanceTick_sched (s : State) (l : Line) : s.advanceTick.sched l = (s.sched l).ticked := Table.look_make ..

theorem lowByte_toNat (w : Word16) : (lowByte w).toNat = w.toNat % 256 := by
  simp [lowByte]

theorem highByte_toNat (w : Word16) : (highByte w).toNat = w.toNat / 256 := by
  rw [highByte, BitVec.extractLsb'_toNat, Nat.shiftRight_eq_div_pow]
  exact Nat.mod_eq_of_lt (by omega)

/-- Settles O31: the tick advances the counter and each scheduler, and a read of TICK LOW splits the counter into its
bytes. -/
theorem tickAndItsLatch : Obligations.TickAndItsLatch := by
  intro s hs
  refine ⟨⟨s.advanceTick.drive, happening_of_running hs State.advanceTick, BitVec.toNat_add _ _,
      fun l hstopped => ?stopped, fun l hrunning hbelow => ?running, rfl⟩,
    ⟨_, readHappening_of_running hs State.readTickLow, lowByte_toNat s.tick, ?latch, rfl⟩⟩
  case stopped =>
    rw [State.drive_sched', State.advanceTick_sched, Scheduler.ticked_of_stopped hstopped]
  case running =>
    rw [State.drive_sched', State.advanceTick_sched, Scheduler.ticked_of_running hrunning hbelow]
  case latch =>
    refine Eq.trans ?_ (highByte_toNat s.tick)
    simp [State.readAt, State.readTickLow, hs]

end Sys2Proof.Machine
end

/-! ### The happenings of a write to CONTROL, in any order (R184, R142, R130, R49, section 5.5) -/

section
namespace Sys2Proof

/-- Writes to two indices of a table can be swapped. -/
theorem Table.put_comm {n : Nat} {α : Type} (t : Table n α) {i j : Fin n} (h : i ≠ j) (x y : α) :
    (t.put i x).put j y = (t.put j y).put i x := Vector.set_comm x y (Fin.val_ne_of_ne h)

end Sys2Proof

namespace Sys2Proof.Machine

/-! #### The Data Port: the ends of a request and RESULT_DMA do not look at each other -/

/-- The Data Port after DISCARD_HEAD: an OUTFLOW request is withdrawn if it was raised (R130). -/
def DataPort.discarded (d : DataPort) : DataPort := if d.outflow.isSome then d.endOutflow else d

/-- The Data Port after RESULT_DMA is written (R167, R173). -/
def DataPort.writeResultDma (d : DataPort) (written : Byte) : DataPort :=
  { d with resultDma := written.getLsbD 4 && !written.getLsbD 0, halted := d.halted && !written.getLsbD 4 }

section
variable (d : DataPort) (b : Byte)

/-- Whichever request of the two is withdrawn first, the port ends with the owner NONE or as it was (R165, R172). -/
theorem DataPort.discarded_endIntake : d.endIntake.discarded = d.discarded.endIntake := by
  cases d with
  | mk owner intake outflow =>
    cases owner <;> cases intake <;> cases outflow <;> rfl

theorem DataPort.endIntake_writeResultDma : (d.writeResultDma b).endIntake = d.endIntake.writeResultDma b := by
  cases d with
  | mk owner intake outflow => cases owner <;> rfl

theorem DataPort.discarded_writeResultDma : (d.writeResultDma b).discarded = d.discarded.writeResultDma b := by
  cases d with
  | mk owner intake outflow => cases owner <;> cases outflow <;> rfl

end

/-! #### Everything that ABORT_CMD and DISCARD_HEAD do -/

/-- The slot that ABORT_CMD frees, if any: the one of an assembly in PAYLOAD (R142). -/
def CommandPort.abandons (p : CommandPort) : Option SlotNo :=
  match p.state with
  | .payload => p.loading
  | _ => none

/-- The Command Port after ABORT_CMD (R142). -/
def CommandPort.aborted (p : CommandPort) : CommandPort :=
  match p.state with
  | .collect | .payload => responding p .aborted []
  | .ready | .respond => p

/-- The Data Port after an ABORT_CMD that finds the assembler in a state (R142, R172). -/
def DataPort.abortedIn (d : DataPort) (a : Assembler) : DataPort :=
  match a with
  | .payload => d.endIntake
  | _ => d

theorem DataPort.discarded_abortedIn (d : DataPort) (a : Assembler) :
    (d.abortedIn a).discarded = d.discarded.abortedIn a := by
  cases a with
  | payload => exact d.discarded_endIntake
  | _ => rfl

/-- The state after one slot, or none, has been freed. -/
def State.freeing (s : State) (o : Option SlotNo) : State := o.elim s s.freeSlot

theorem State.abort_eq (s : State) :
    s.abort =
      { s.freeing s.port.abandons with port := s.port.aborted, data := s.data.abortedIn s.port.state } := by
  unfold State.abort State.intakeAbandoned CommandPort.abandons CommandPort.aborted
  cases s.port.state with
  | payload => cases s.port.loading <;> rfl
  | _ => rfl

/-- DISCARD_HEAD retires the head record and withdraws its OUTFLOW request (R130). -/
theorem State.discard_of_cons {s : State} {r : Record} {rest : List Record} (h : s.queue.records = r :: rest) :
    s.discard = { s.retireHead with data := s.data.discarded } :=
  State.discard_of_record (by simp [h])

/-- The state with both ports, the Event Unit and the outputs replaced. -/
def State.withPorts (s : State) (o : CommandPort) (d : DataPort) (e : EventUnit) (p : Pins) : State :=
  { s with port := o, data := d, events := e, pins := p }

/-- ABORT_CMD looks at the Command Port and frees its LOADING slot; it looks at nothing of the Event Unit and of the outputs,
and at the Data Port only to withdraw INTAKE. -/
theorem State.abort_withPorts (s : State) (o : CommandPort) (d : DataPort) (e : EventUnit) (p : Pins) :
    (s.withPorts o d e p).abort = (s.freeing o.abandons).withPorts o.aborted (d.abortedIn o.state) e p := by
  rw [State.abort_eq]
  unfold State.freeing State.withPorts
  cases o.abandons <;> rfl

/-- DISCARD_HEAD looks at nothing of the Command Port, the Event Unit and the outputs, and at the Data Port only to withdraw
OUTFLOW. -/
theorem State.discard_withPorts (s : State) (o : CommandPort) (d : DataPort) (e : EventUnit) (p : Pins) :
    (s.withPorts o d e p).discard =
      s.discard.withPorts o (if s.queue.records = [] then d else d.discarded) e p := by
  cases hrecords : s.queue.records with
  | nil =>
    rw [State.discard_of_empty hrecords]
    exact State.discard_of_empty hrecords
  | cons r rest =>
    have hsame : (s.withPorts o d e p).queue.records = r :: rest := hrecords
    rw [State.discard_of_cons hsame, State.discard_of_cons hrecords, State.retireHead_of_cons hsame,
      State.retireHead_of_cons hrecords]
    rfl

/-! #### The happenings of one write that commute whatever the state -/

section
variable (s : State) (b : Byte)

theorem State.abort_drive : s.drive.abort.drive = s.abort.drive :=
  (congrArg State.drive (s.abort_withPorts s.port s.data s.events s.drivenPins)).trans
    (congrArg State.drive (s.abort_withPorts s.port s.data s.events s.pins)).symm

theorem State.discard_drive : s.drive.discard.drive = s.discard.drive :=
  (congrArg State.drive (s.discard_withPorts s.port s.data s.events s.drivenPins)).trans
    (congrArg State.drive (s.discard_withPorts s.port s.data s.events s.pins)).symm

theorem State.abort_writeBusEnable : (s.writeBusEnable b).abort = s.abort.writeBusEnable b :=
  (s.abort_withPorts s.port s.data (s.writeBusEnable b).events s.pins).trans
    (congrArg (State.writeBusEnable · b) (s.abort_withPorts s.port s.data s.events s.pins)).symm

theorem State.discard_writeBusEnable : (s.writeBusEnable b).discard = s.discard.writeBusEnable b :=
  (s.discard_withPorts s.port s.data (s.writeBusEnable b).events s.pins).trans
    (congrArg (State.writeBusEnable · b) (s.discard_withPorts s.port s.data s.events s.pins)).symm

theorem State.abort_writeResultDma : (s.writeResultDma b).abort = s.abort.writeResultDma b := by
  have hdata : (s.data.writeResultDma b).abortedIn s.port.state = (s.data.abortedIn s.port.state).writeResultDma b := by
    cases s.port.state with
    | payload => exact s.data.endIntake_writeResultDma b
    | _ => rfl
  refine (s.abort_withPorts s.port (s.data.writeResultDma b) s.events s.pins).trans ?_
  rw [hdata]
  exact (congrArg (State.writeResultDma · b) (s.abort_withPorts s.port s.data s.events s.pins)).symm

theorem State.discard_writeResultDma : (s.writeResultDma b).discard = s.discard.writeResultDma b := by
  refine (s.discard_withPorts s.port (s.data.writeResultDma b) s.events s.pins).trans ?_
  rw [s.data.discarded_writeResultDma b, ← apply_ite (DataPort.writeResultDma · b)]
  exact (congrArg (State.writeResultDma · b) (s.discard_withPorts s.port s.data s.events s.pins)).symm

/-! #### A soft reset with the other happenings of its write (R44, R120, R135, R144, R173, R185) -/

theorem State.softReset_abort : s.abort.softReset = s.softReset := by
  rw [s.abort_frame]
  rfl

/-- A poll entry that forgot a slot is cleared all the same (R119). -/
theorem PollEntry.cleared_forget (x : PollEntry) (n : SlotNo) : (x.forget n).cleared = x.cleared := by
  rw [PollEntry.forget_eq]
  split <;> rfl

theorem Scheduler.softReset_forget (x : Scheduler) (i : EntryNo) (n : SlotNo) : (x.forget i n).softReset = x.softReset := by
  have hentries : (Table.make fun j => ((x.forget i n).entries.look j).cleared) =
      Table.make fun j => (x.entries.look j).cleared := by
    refine Table.ext fun j => ?_
    rw [Table.look_make, Table.look_make, Scheduler.forget, Table.look_put]
    split
    · next h => rw [PollEntry.cleared_forget, h]
    · rfl
  rw [Scheduler.softReset, hentries]
  rfl

theorem State.softReset_discard : s.discard.softReset = s.softReset := by
  cases hrecords : s.queue.records with
  | nil => rw [State.discard_of_empty hrecords]
  | cons r rest =>
    have hscheds : (Table.make fun l => (s.discard.sched l).softReset) = Table.make fun l => (s.sched l).softReset := by
      refine Table.ext fun l => ?_
      rw [Table.look_make, Table.look_make, State.discard_of_cons hrecords, State.retireHead_of_cons hrecords]
      simp only [State.sched]
      split
      · rw [Table.look_put]
        split
        · next hline => rw [Scheduler.softReset_forget, hline]
        · rfl
      · rfl
    rw [State.softReset, hscheds, State.discard_of_cons hrecords, State.retireHead_of_cons hrecords]
    rfl

theorem State.abort_softReset : s.softReset.abort = s.softReset := State.abort_of_idle (.inl rfl)

theorem State.discard_softReset : s.softReset.discard = s.softReset := State.discard_of_empty rfl

variable {b}

/-- A write that carries SOFT_RESET leaves BUS_ENABLE at 0, in either order (R180). -/
theorem State.writeBusEnable_softReset (h : b.getLsbD 0 = true) : s.softReset.writeBusEnable b = s.softReset := by
  rw [State.writeBusEnable, h, Bool.not_true, Bool.and_false]
  rfl

/-- A write that carries SOFT_RESET leaves RESULT_DMA off, in either order (R173). -/
theorem State.writeResultDma_softReset (h : b.getLsbD 0 = true) : s.softReset.writeResultDma b = s.softReset := by
  rw [State.writeResultDma, h, Bool.not_true, Bool.and_false]
  rfl

end

/-! #### The five happenings as effects -/

/-- What a command that a write to CONTROL hands out does to a part out of reset, before the outputs are evaluated. -/
def controlEffect (s : State) (c : Instr) : State :=
  match c with
  | .softReset => s.softReset
  | .abortCmd => s.abort
  | .discardHead => s.discard
  | .busEnable b => s.writeBusEnable b
  | .resultDma b => s.writeResultDma b
  | _ => s

theorem mem_controlCommands {b : Byte} {c : Instr} :
    c ∈ controlCommands b ↔
      c = .softReset ∧ b.getLsbD 0 = true ∨ c = .abortCmd ∧ b.getLsbD 1 = true ∨
        c = .discardHead ∧ b.getLsbD 2 = true ∨ c = .busEnable b ∨ c = .resultDma b := by
  simp [controlCommands, and_comm]

section
variable {b : Byte} {c d : Instr} (hc : c ∈ controlCommands b) (s : State)

include hc in
theorem exec_control : exec c s = happening (controlEffect · c) s := by
  obtain ⟨rfl, -⟩ | ⟨rfl, -⟩ | ⟨rfl, -⟩ | rfl | rfl := mem_controlCommands.1 hc <;> rfl

/-- No happening of a write to CONTROL looks at the outputs. -/
theorem controlEffect_drive (c : Instr) : (controlEffect s.drive c).drive = (controlEffect s c).drive := by
  cases c
  case abortCmd => exact s.abort_drive
  case discardHead => exact s.discard_drive
  all_goals rfl

theorem controlEffect_inReset (c : Instr) : (controlEffect s c).inReset = s.inReset := by
  cases c
  case abortCmd => rw [controlEffect, s.abort_frame]
  case discardHead => rw [controlEffect, s.discard_frame]
  all_goals rfl

include hc in
/-- A soft reset undoes what another happening of its write did before it. -/
theorem softReset_controlEffect (hother : c ≠ .softReset) : (controlEffect s c).softReset = s.softReset := by
  obtain ⟨rfl, -⟩ | ⟨rfl, -⟩ | ⟨rfl, -⟩ | rfl | rfl := mem_controlCommands.1 hc
  · contradiction
  · exact s.softReset_abort
  · exact s.softReset_discard
  · rfl
  · rfl

include hc in
/-- After a soft reset another happening of its write finds nothing to do. -/
theorem controlEffect_softReset (hreset : b.getLsbD 0 = true) (hother : c ≠ .softReset) :
    controlEffect s.softReset c = s.softReset := by
  obtain ⟨rfl, -⟩ | ⟨rfl, -⟩ | ⟨rfl, -⟩ | rfl | rfl := mem_controlCommands.1 hc
  · contradiction
  · exact s.abort_softReset
  · exact s.discard_softReset
  · exact s.writeBusEnable_softReset hreset
  · exact s.writeResultDma_softReset hreset

end

theorem controlCommands_nodup (b : Byte) : (controlCommands b).Nodup := by
  unfold controlCommands
  split <;> split <;> split <;> simp

section
variable {b : Byte} {cs : List Instr} (hcs : ∀ c ∈ cs, c ∈ controlCommands b ∧ c ≠ .softReset) (s : State)
include hcs

theorem softReset_foldl_controlEffect : (cs.foldl controlEffect s).softReset = s.softReset := by
  induction cs generalizing s with
  | nil => rfl
  | cons c cs ih =>
    obtain ⟨⟨hc, hother⟩, htail⟩ := List.forall_mem_cons.1 hcs
    exact (ih htail (controlEffect s c)).trans (softReset_controlEffect hc s hother)

theorem foldl_controlEffect_softReset (hreset : b.getLsbD 0 = true) :
    cs.foldl controlEffect s.softReset = s.softReset := by
  induction cs with
  | nil => rfl
  | cons c cs ih =>
    obtain ⟨⟨hc, hother⟩, htail⟩ := List.forall_mem_cons.1 hcs
    rw [List.foldl_cons, controlEffect_softReset hc s hreset hother]
    exact ih htail

end

/-- With SOFT_RESET among them, the happenings of a write do in every order what the soft reset does. -/
theorem foldl_controlEffect_of_softReset {b : Byte} {p : List Instr} (hp : p.Perm (controlCommands b))
    (hreset : b.getLsbD 0 = true) (s : State) : p.foldl controlEffect s = s.softReset := by
  have hmem : ∀ c ∈ p, c ∈ controlCommands b := fun c => hp.mem_iff.1
  have hnodup : p.Nodup := hp.nodup_iff.2 (controlCommands_nodup b)
  obtain ⟨before, after, rfl⟩ := List.append_of_mem (hp.mem_iff.2 (mem_controlCommands.2 (.inl ⟨rfl, hreset⟩)))
  have honce : .softReset ∉ before ++ after := (List.nodup_cons.1 (List.nodup_middle.1 hnodup)).1
  have hothers : ∀ c ∈ before ++ after, c ∈ controlCommands b ∧ c ≠ .softReset := fun c hc =>
    ⟨hmem c (List.perm_middle.mem_iff.2 (List.mem_cons_of_mem _ hc)), fun h => honce (h ▸ hc)⟩
  obtain ⟨hbefore, hafter⟩ := List.forall_mem_append.1 hothers
  rw [List.foldl_append, List.foldl_cons]
  change after.foldl controlEffect (before.foldl controlEffect s).softReset = s.softReset
  rw [softReset_foldl_controlEffect hbefore, foldl_controlEffect_softReset hafter s hreset]

/-! #### Without a soft reset: what commutes exactly -/

section
variable {b : Byte} {c d : Instr} (hc : c ∈ controlCommands b) (hd : d ∈ controlCommands b) (s : State)

include hc in
/-- Without SOFT_RESET four happenings are left of the five. -/
theorem mem_controlCommands_of_no_softReset (hkeep : b.getLsbD 0 = false) :
    c = .abortCmd ∧ b.getLsbD 1 = true ∨ c = .discardHead ∧ b.getLsbD 2 = true ∨
      c = .busEnable b ∨ c = .resultDma b := by
  obtain ⟨-, hreset⟩ | h := mem_controlCommands.1 hc
  · exact absurd (hkeep.symm.trans hreset) Bool.false_ne_true
  · exact h

variable (hkeep : b.getLsbD 0 = false)
include hc hkeep

theorem controlEffect_writeBusEnable :
    controlEffect (s.writeBusEnable b) c = (controlEffect s c).writeBusEnable b := by
  obtain ⟨rfl, -⟩ | ⟨rfl, -⟩ | rfl | rfl := mem_controlCommands_of_no_softReset hc hkeep
  · exact s.abort_writeBusEnable b
  · exact s.discard_writeBusEnable b
  · rfl
  · rfl

theorem controlEffect_writeResultDma :
    controlEffect (s.writeResultDma b) c = (controlEffect s c).writeResultDma b := by
  obtain ⟨rfl, -⟩ | ⟨rfl, -⟩ | rfl | rfl := mem_controlCommands_of_no_softReset hc hkeep
  · exact s.abort_writeResultDma b
  · exact s.discard_writeResultDma b
  · rfl
  · rfl

include hd in
/-- Two happenings of one write commute, unless they are ABORT_CMD and DISCARD_HEAD. -/
theorem controlEffect_comm :
    controlEffect (controlEffect s c) d = controlEffect (controlEffect s d) c ∨
      b.getLsbD 1 = true ∧ b.getLsbD 2 = true ∧
        (c = .abortCmd ∧ d = .discardHead ∨ c = .discardHead ∧ d = .abortCmd) := by
  obtain ⟨rfl, habort⟩ | ⟨rfl, hdiscard⟩ | rfl | rfl := mem_controlCommands_of_no_softReset hc hkeep
  case inr.inr.inl => exact .inl (controlEffect_writeBusEnable hd s hkeep)
  case inr.inr.inr => exact .inl (controlEffect_writeResultDma hd s hkeep)
  all_goals
    obtain ⟨rfl, habort⟩ | ⟨rfl, hdiscard⟩ | rfl | rfl := mem_controlCommands_of_no_softReset hd hkeep
    case inr.inr.inl => exact .inl (controlEffect_writeBusEnable hc s hkeep).symm
    case inr.inr.inr => exact .inl (controlEffect_writeResultDma hc s hkeep).symm
  · exact .inl rfl
  · exact .inr ⟨habort, hdiscard, .inl ⟨rfl, rfl⟩⟩
  · exact .inr ⟨habort, hdiscard, .inr ⟨rfl, rfl⟩⟩
  · exact .inl rfl

end

/-! #### The order of the free list (R49) -/

/-- The state with another free list. -/
def State.withFree (s : State) (free : List BlockNo) : State := { s with pool := { s.pool with free := free } }

/-- Two states that differ at most in the order in which the free list holds the same blocks. -/
structure SameButFreeOrder (s t : State) : Prop where
  perm : s.pool.free.Perm t.pool.free
  rest : s = t.withFree s.pool.free

theorem SameButFreeOrder.refl (s : State) : SameButFreeOrder s s := ⟨.refl _, rfl⟩

theorem SameButFreeOrder.symm {s t : State} (h : SameButFreeOrder s t) : SameButFreeOrder t s :=
  ⟨h.perm.symm, (congrArg (State.withFree · t.pool.free) h.rest).symm⟩

theorem SameButFreeOrder.trans {s t u : State} (h : SameButFreeOrder s t) (h' : SameButFreeOrder t u) :
    SameButFreeOrder s u := by
  have hrest := congrArg (State.withFree · s.pool.free) h'.rest
  exact ⟨h.perm.trans h'.perm, h.rest.trans hrest⟩

theorem SameButFreeOrder.of_eq {s t : State} (h : s = t) : SameButFreeOrder s t := h ▸ .refl s

/-- The effect returns its blocks to the tail of the free list, and looks at the list for nothing else (R49). -/
def ReturnsToTail (f : State → State) : Prop :=
  ∀ s : State, ∃ blocks : List BlockNo, ∀ free : List BlockNo, f (s.withFree free) = (f s).withFree (free ++ blocks)

/-- Such an effect leaves two states that agree so in agreement. -/
theorem SameButFreeOrder.map {f : State → State} (hf : ReturnsToTail f) {s t : State} (h : SameButFreeOrder s t) :
    SameButFreeOrder (f s) (f t) := by
  obtain ⟨blocks, hblocks⟩ := hf t
  have hs : f s = (f t).withFree (s.pool.free ++ blocks) := (congrArg f h.rest).trans (hblocks _)
  have hsfree : (f s).pool.free = s.pool.free ++ blocks := congrArg (·.pool.free) hs
  have htfree : (f t).pool.free = t.pool.free ++ blocks := congrArg (·.pool.free) (hblocks t.pool.free)
  exact ⟨hsfree ▸ htfree ▸ h.perm.append_right blocks, hsfree ▸ hs⟩

theorem returnsToTail_abort : ReturnsToTail State.abort := by
  intro s
  cases habandons : s.port.abandons with
  | none =>
    refine ⟨[], fun free => ?_⟩
    rw [List.append_nil, State.abort_eq, s.abort_eq]
    simp only [State.withFree, habandons]
    rfl
  | some n =>
    refine ⟨(s.slot n).requestChain ++ (s.slot n).replyChain, fun free => ?_⟩
    rw [← List.append_assoc, State.abort_eq, s.abort_eq]
    simp only [State.withFree, habandons]
    rfl

theorem returnsToTail_discard : ReturnsToTail State.discard := by
  intro s
  cases hrecords : s.queue.records with
  | nil =>
    refine ⟨[], fun free => ?_⟩
    rw [List.append_nil, State.discard_of_empty hrecords]
    exact State.discard_of_empty hrecords
  | cons r rest =>
    refine ⟨(s.slot r.slot).requestChain ++ (s.slot r.slot).replyChain, fun free => ?_⟩
    have hsame : (s.withFree free).queue.records = r :: rest := hrecords
    rw [← List.append_assoc, State.discard_of_cons hsame, State.discard_of_cons hrecords,
      State.retireHead_of_cons hsame, State.retireHead_of_cons hrecords]
    rfl

/-- An effect that does not look at the free list at all. -/
theorem returnsToTail_of_blind {f : State → State} (hf : ∀ s free, f (s.withFree free) = (f s).withFree free) :
    ReturnsToTail f := fun s => ⟨[], fun free => by rw [List.append_nil, hf]⟩

theorem returnsToTail_controlEffect {b : Byte} {c : Instr} (hc : c ∈ controlCommands b) (hkeep : b.getLsbD 0 = false) :
    ReturnsToTail (controlEffect · c) := by
  obtain ⟨rfl, -⟩ | ⟨rfl, -⟩ | rfl | rfl := mem_controlCommands_of_no_softReset hc hkeep
  · exact returnsToTail_abort
  · exact returnsToTail_discard
  · exact returnsToTail_of_blind fun _ _ => rfl
  · exact returnsToTail_of_blind fun _ _ => rfl

theorem SameButFreeOrder.drive {s t : State} (h : SameButFreeOrder s t) : SameButFreeOrder s.drive t.drive :=
  h.map (returnsToTail_of_blind fun _ _ => rfl)

theorem SameButFreeOrder.withPorts {s t : State} (h : SameButFreeOrder s t) (o : CommandPort) (d : DataPort)
    (e : EventUnit) (p : Pins) : SameButFreeOrder (s.withPorts o d e p) (t.withPorts o d e p) :=
  h.map (f := (State.withPorts · o d e p)) (returnsToTail_of_blind fun _ _ => rfl)

/-! #### ABORT_CMD and DISCARD_HEAD (R142, R130, R49, section 5.5) -/

/-- The LOADING slot that ABORT_CMD frees is not the DONE slot that DISCARD_HEAD retires (R22). -/
theorem PlacesBut.abandoned_ne_head {s : State} (h : PlacesBut [] s) {n : SlotNo} (hn : s.port.abandons = some n)
    {r : Record} {rest : List Record} (hr : s.queue.records = r :: rest) : n ≠ r.slot := by
  have hloading : s.port.loading = some n := by
    unfold CommandPort.abandons at hn
    split at hn
    · exact hn
    · cases hn
  have hstate : (s.slot n).state = .loading := (h.inPlace n List.not_mem_nil).loading.1 hloading
  have hdone : (s.slot r.slot).state = .done := (h.inPlace r.slot List.not_mem_nil).done.1 (by simp [hr])
  rintro rfl
  simp [hstate] at hdone

/-- Freeing the slot of the assembly before or after the head record is discarded. -/
theorem PlacesBut.discard_freeing {s : State} (h : PlacesBut [] s) :
    SameButFreeOrder (s.freeing s.port.abandons).discard (s.discard.freeing s.port.abandons) := by
  cases hn : s.port.abandons with
  | none => exact .refl _
  | some n =>
    change SameButFreeOrder (s.freeSlot n).discard (s.discard.freeSlot n)
    cases hr : s.queue.records with
    | nil =>
      have hsame : (s.freeSlot n).queue.records = [] := hr
      rw [State.discard_of_empty hsame, State.discard_of_empty hr]
      exact .refl _
    | cons r rest =>
      have hne := h.abandoned_ne_head hn hr
      have hsame : (s.freeSlot n).queue.records = r :: rest := hr
      have hslot : s.discard.slot n = s.slot n := by
        rw [State.discard_of_cons hr, State.retireHead_of_cons hr]
        exact Table.look_put_ne _ _ hne.symm
      rw [s.discard.freeSlot_eq, hslot, State.discard_of_cons hsame, State.retireHead_of_cons hsame,
        State.discard_of_cons hr, State.retireHead_of_cons hr, State.freeSlot_slot_ne s n hne, s.freeSlot_eq]
      constructor
      · simp only [List.append_assoc]
        refine List.Perm.append_left _ ?_
        rw [← List.append_assoc, ← List.append_assoc (s.slot r.slot).requestChain]
        exact List.perm_append_comm
      · unfold State.withFree
        dsimp only
        rw [Table.put_comm _ hne]
        rfl

/-- ABORT_CMD and DISCARD_HEAD in either order: the ports end alike, and the blocks of the slot freed first stand first. -/
theorem PlacesBut.discard_abort {s : State} (h : PlacesBut [] s) : SameButFreeOrder s.abort.discard s.discard.abort := by
  have hqueue : (s.freeing s.port.abandons).queue = s.queue := by
    unfold State.freeing
    cases s.port.abandons <;> rfl
  -- Each order as slots, blocks and records first, with the two ports replaced after them.
  have habort := s.abort_withPorts s.port s.data s.events s.pins
  have hdiscard := s.discard_withPorts s.port s.data s.events s.pins
  have hleft := (congrArg State.discard habort).trans (State.discard_withPorts ..)
  have hright := (congrArg State.abort hdiscard).trans (State.abort_withPorts ..)
  rw [hqueue, DataPort.discarded_abortedIn, ← apply_ite (DataPort.abortedIn · s.port.state)] at hleft
  exact (SameButFreeOrder.of_eq hleft).trans ((h.discard_freeing.withPorts _ _ _ _).trans (.of_eq hright.symm))

/-! #### Every order of the happenings -/

section
variable {α σ : Type} {f : σ → α → σ} {R : σ → σ → Prop} {I : σ → Prop} {p q : List α}

/-- Steps that each keep a relation keep it one after another. -/
theorem foldl_keeps (hmap : ∀ x ∈ p, ∀ s t, R s t → R (f s x) (f t x)) {s t : σ} (h : R s t) :
    R (p.foldl f s) (p.foldl f t) := by
  induction p generalizing s t with
  | nil => exact h
  | cons x p ih =>
    obtain ⟨hx, hp⟩ := List.forall_mem_cons.1 hmap
    exact ih hp (hx s t h)

/-- Steps that keep an invariant, and that commute up to a relation wherever it holds, end related in every order. -/
theorem foldl_perm_related (h : p.Perm q) (hrefl : ∀ s, R s s) (htrans : ∀ {s t u}, R s t → R t u → R s u)
    (hinv : ∀ x ∈ p, ∀ s, I s → I (f s x)) (hmap : ∀ x ∈ p, ∀ s t, R s t → R (f s x) (f t x))
    (hcomm : ∀ x ∈ p, ∀ y ∈ p, ∀ s, I s → R (f (f s x) y) (f (f s y) x)) {s : σ} (hs : I s) :
    R (p.foldl f s) (q.foldl f s) := by
  induction h generalizing s with
  | nil => exact hrefl s
  | cons x _ ih =>
    exact ih (fun y hy => hinv y (List.mem_cons_of_mem _ hy)) (fun y hy => hmap y (List.mem_cons_of_mem _ hy))
      (fun y hy z hz => hcomm y (List.mem_cons_of_mem _ hy) z (List.mem_cons_of_mem _ hz))
      (hinv x List.mem_cons_self s hs)
  | swap x y l =>
    exact foldl_keeps (fun z hz => hmap z (List.mem_cons_of_mem _ (List.mem_cons_of_mem _ hz)))
      (hcomm y List.mem_cons_self x (List.mem_cons_of_mem _ List.mem_cons_self) s hs)
  | trans h₁ _ ih₁ ih₂ =>
    have hmem := fun x => (h₁.mem_iff (a := x)).2
    exact htrans (ih₁ hinv hmap hcomm hs)
      (ih₂ (fun x hx => hinv x (hmem x hx)) (fun x hx => hmap x (hmem x hx))
        (fun x hx y hy => hcomm x (hmem x hx) y (hmem y hy)) hs)

end

section
variable {b : Byte} {p q : List Instr} (hp : p.Perm (controlCommands b)) (hq : q.Perm (controlCommands b))

theorem PlacesBut.controlEffect {s : State} (h : PlacesBut [] s) (c : Instr) : PlacesBut [] (controlEffect s c) := by
  cases c
  case softReset => exact placesBut_softReset s
  case abortCmd => exact h.abort
  case discardHead => exact h.discard
  all_goals exact h.frame rfl rfl rfl rfl (fun _ => rfl) rfl

include hp hq

/-- Without SOFT_RESET every two orders end in the same state but for the order of the free list. -/
theorem foldl_controlEffect_perm (hkeep : b.getLsbD 0 = false) {s : State} (hs : PlacesBut [] s) :
    SameButFreeOrder (p.foldl controlEffect s) (q.foldl controlEffect s) := by
  have hmem : ∀ c ∈ p, c ∈ controlCommands b := fun c => hp.mem_iff.1
  refine foldl_perm_related (I := PlacesBut []) (hp.trans hq.symm) .refl .trans (fun c _ t ht => ht.controlEffect c)
    (fun c hc t u => SameButFreeOrder.map (returnsToTail_controlEffect (hmem c hc) hkeep)) (fun c hc d hd t ht => ?_) hs
  obtain hexact | ⟨-, -, ⟨rfl, rfl⟩ | ⟨rfl, rfl⟩⟩ := controlEffect_comm (hmem c hc) (hmem d hd) t hkeep
  · exact .of_eq hexact
  · exact ht.discard_abort
  · exact ht.discard_abort.symm

/-- Without SOFT_RESET, and with only one of the two actions that return blocks, every two orders end in the same state. -/
theorem foldl_controlEffect_perm_of_one_return (hkeep : b.getLsbD 0 = false)
    (hone : ¬ (b.getLsbD 1 = true ∧ b.getLsbD 2 = true)) (s : State) :
    p.foldl controlEffect s = q.foldl controlEffect s := by
  have hmem : ∀ c ∈ p, c ∈ controlCommands b := fun c => hp.mem_iff.1
  refine (hp.trans hq.symm).foldl_eq' (fun c hc d hd t => ?_) s
  obtain hexact | ⟨habort, hdiscard, -⟩ := controlEffect_comm (hmem c hc) (hmem d hd) t hkeep
  · exact hexact
  · exact absurd ⟨habort, hdiscard⟩ hone

end

/-- Out of reset the happenings end in the state of their effects, with the outputs evaluated last. -/
theorem afterAll_drive {b : Byte} {cs : List Instr} (hcs : ∀ c ∈ cs, c ∈ controlCommands b) {s : State}
    (hs : s.inReset = false) : afterAll cs s.drive = (cs.foldl controlEffect s).drive := by
  induction cs generalizing s with
  | nil => rfl
  | cons c cs ih =>
    have hstep : exec c s.drive = .next (controlEffect s c).drive := by
      rw [exec_control (hcs c List.mem_cons_self), happening_of_running (s := s.drive) hs, controlEffect_drive]
    have htail : afterAll (c :: cs) s.drive = afterAll cs (controlEffect s c).drive := by
      unfold afterAll
      rw [List.foldl_cons, hstep]
    rw [htail, List.foldl_cons]
    exact ih (fun x hx => hcs x (List.mem_cons_of_mem _ hx)) ((controlEffect_inReset s c).trans hs)

/-- The happenings of a write, in any order: their effects, with the outputs evaluated last. -/
theorem afterAll_of_perm {b : Byte} {p : List Instr} (hp : p.Perm (controlCommands b)) {s : State}
    (hs : s.inReset = false) : afterAll p s = (p.foldl controlEffect s).drive := by
  have hmem : ∀ c ∈ p, c ∈ controlCommands b := fun c => hp.mem_iff.1
  cases p with
  | nil => exact absurd (hp.mem_iff.2 (mem_controlCommands.2 (.inr (.inr (.inr (.inr rfl)))))) List.not_mem_nil
  | cons c cs =>
    obtain ⟨hc, hcs⟩ := List.forall_mem_cons.1 hmem
    have hstep : exec c s = .next (controlEffect s c).drive := by
      rw [exec_control hc, happening_of_running hs]
    unfold afterAll
    rw [List.foldl_cons, hstep]
    exact afterAll_drive hcs ((controlEffect_inReset s c).trans hs)

/-- The write takes its happenings in the order of the bits (R184). -/
theorem State.writeControl_eq (s : State) (b : Byte) : s.writeControl b = (controlCommands b).foldl controlEffect s := by
  unfold State.writeControl controlCommands
  cases b.getLsbD 0 <;> cases b.getLsbD 1 <;> cases b.getLsbD 2 <;> rfl

theorem exec_writeControl {s : State} (hs : s.inReset = false) (b : Byte) :
    exec (.ignoredWrite 1 b) s = .next (s.writeControl b).drive := by
  have hwrite : s.writeAt 1 b = s.writeControl b := by simp [State.writeAt, hs]
  rw [← hwrite]
  exact happening_of_running hs (State.writeAt · 1 b)

/-- Settles O60: the outputs are evaluated last in every order; a soft reset absorbs the other happenings, and without one
all commute exactly but ABORT_CMD with DISCARD_HEAD, which commute but for the order of the free list. -/
theorem controlActionsCommute : Obligations.ControlActionsCommute := by
  intro s b p q hs hplaces hp hq
  rw [afterAll_of_perm hp hs, afterAll_of_perm hq hs, afterAll_of_perm (.refl _) hs, ← s.writeControl_eq]
  have hreset (h : b.getLsbD 0 = true) : p.foldl controlEffect s = q.foldl controlEffect s :=
    (foldl_controlEffect_of_softReset hp h s).trans (foldl_controlEffect_of_softReset hq h s).symm
  refine ⟨fun h => congrArg State.drive (hreset h), fun h => ?_, fun hone => congrArg State.drive ?_,
    exec_writeControl hs b⟩
  · have hsame := (foldl_controlEffect_perm hp hq h ((places_iff s).1 hplaces)).drive
    exact ⟨hsame.perm, hsame.rest⟩
  · cases h : b.getLsbD 0 with
    | true => exact hreset h
    | false => exact foldl_controlEffect_perm_of_one_return hp hq h hone s

end Sys2Proof.Machine
end

/-! # The step itself, and the canonical form of the payload memory

SUPPORT. Each writer of the payload memory (section 3.4) stores one byte in the chain of a slot, but for hardware reset, which
writes 0 into every byte (R45); the other commands leave the memory as it is. -/

/-! ### The canonical form (section 3.1, R45, R50) -/

section
namespace Sys2Proof.Machine

/-- An operation that is none of the memory's writers keeps the canonical form. -/
theorem Keeps.wf {s t : State} (h : Keeps False s t) (hs : Memory.wf s.pool.mem = true) : Memory.wf t.pool.mem = true :=
  (h.mem.resolve_left not_false) ▸ hs

theorem wf_of_happening {f : State → State} {s t : State} (ht : happening f s = .next t)
    (hs : Memory.wf s.pool.mem = true) (hf : Memory.wf (f s).pool.mem = true) : Memory.wf t.pool.mem = true := by
  cases hreset : s.inReset with
  | true =>
    rw [happening_of_inReset hreset] at ht
    cases ht
    exact hs
  | false =>
    rw [happening_of_running hreset] at ht
    cases ht
    rwa [State.drive_pool]

section
variable {s t : State} (hs : Memory.wf s.pool.mem = true)
include hs

/-- An INTAKE owner stores the byte in the chain being filled; any other write is dropped (R166, R51). -/
theorem State.dataIn_wf (b : Byte) (dma tc : Bool) : Memory.wf (s.dataIn b dma tc).pool.mem = true := by
  unfold State.dataIn
  split
  · rw [State.moveIn_mem]
    exact s.putChainByte_wf _ _ b hs
  · rwa [State.setLost_pool]

/-- Offset 3 is the DATA location; a write elsewhere does not reach the memory (R182). -/
theorem State.writeAt_wf (offset : Fin 8) (b : Byte) : Memory.wf (s.writeAt offset b).pool.mem = true := by
  by_cases hdata : offset = 3
  · subst hdata
    unfold State.writeAt
    split
    · exact hs
    · exact s.dataIn_wf hs b false false
  · exact ((Keeps.refl False s).writeAt (fun h => hdata h.2) b).wf hs

/-- A granted poll creation stores the item code in its new request chain (R51, R111). -/
theorem State.createPoll_wf (l : Line) (i : EntryNo) (d : PollDef) (n : SlotNo) :
    Memory.wf (s.createPoll l i d n).pool.mem = true := by
  rw [State.createPoll_eq]
  exact s.putChainByte_wf _ 0 d.item hs

theorem State.claim_wf (l : Line) : Memory.wf (s.claim l).pool.mem = true := by
  unfold State.claim
  split
  · next i rest _ _ =>
    dsimp only
    split
    · exact hs
    · split
      · split
        · exact State.createPoll_wf (s := s.modSched l fun p => { p with due := rest }) hs l i _ _
        · exact hs
      · exact hs
  · exact hs

/-- Only a payload character of phase REQUEST with room left is stored, in the reply chain (R53). A verdict writes none. -/
theorem State.takeCharacter_wf (l : Line) (x : Slot) (p : Phase) (b : Byte) :
    Memory.wf (s.takeCharacter l x p b).pool.mem = true := by
  unfold State.takeCharacter
  dsimp only
  split
  · exact hs
  split
  · exact hs
  split
  · exact hs
  split
  · split
    · exact s.putChainByte_wf _ _ b hs
    · exact hs
  split
  · exact hs
  · exact (((Keeps.refl False s).setLink l _).verdict l _).wf hs

theorem State.characterDelivered_wf (l : Line) (samples : BitVec 10) :
    Memory.wf (s.characterDelivered l samples).pool.mem = true := by
  unfold State.characterDelivered
  dsimp only
  split
  · split
    · split
      · exact (((Keeps.refl False s).setLink l _).verdict l _).wf hs
      · exact State.takeCharacter_wf (s := s.setLink l _) hs l _ _ _
    · exact hs
  · exact hs

/-- Every command keeps the canonical form: one that is not a writer keeps the memory (R45, section 3.4), and each writer
stores in the pool. -/
theorem wf_of_exec {c : Instr} (ht : exec c s = .next t) : Memory.wf t.pool.mem = true := by
  obtain hwrites | hsame := (keeps_of_exec ht).mem
  · obtain ⟨_, ⟨b, rfl | rfl⟩ | ⟨b, tc, rfl⟩⟩ | ⟨l, rfl, _⟩ | ⟨l, samples, rfl, _⟩ | ⟨straps, rfl⟩ := hwrites
    · exact wf_of_happening (f := (State.dataIn · b false false)) ht hs (State.dataIn_wf hs b false false)
    · exact wf_of_happening (f := (State.writeAt · 3 b)) ht hs (State.writeAt_wf hs 3 b)
    · exact wf_of_happening (f := (State.dataIn · b true tc)) ht hs (State.dataIn_wf hs b true tc)
    · exact wf_of_happening (f := (State.claim · l)) ht hs (State.claim_wf hs l)
    · exact wf_of_happening (f := (State.characterDelivered · l samples)) ht hs (State.characterDelivered_wf hs l samples)
    · cases ht
      exact Memory.wf_reset
  · rwa [hsame]

end

/-! ### The step (section 5.5) -/

/-- A step runs the command at the front of the queue, which then no longer waits. -/
theorem step_of_waiting {s : State} {c : Instr} {rest : List Instr} (h : s.pending = c :: rest) :
    step s = exec c { s with pending := rest } := by rw [step, h]

/-- With no command waiting a step changes nothing (log entry 4). -/
theorem step_of_idle {s : State} (h : s.pending = []) : step s = .next s := by rw [step, h]

/-- Settles O52: every command keeps the canonical form, and the step itself only takes the command from those that wait. -/
theorem memoryStaysCanonical : Obligations.MemoryStaysCanonical := by
  intro s t hs ht
  cases hpending : s.pending with
  | nil =>
    rw [step_of_idle hpending] at ht
    cases ht
    exact hs
  | cons c rest =>
    rw [step_of_waiting hpending] at ht
    exact wf_of_exec (s := { s with pending := rest }) hs ht

/-- Settles O1: the front command of a queue, and the empty queue. -/
theorem stepRunsFrontCommandOrIdles : Obligations.StepRunsFrontCommandOrIdles :=
  ⟨fun _ _ _ => step_of_waiting rfl, fun _ => step_of_idle⟩

end Sys2Proof.Machine
end
